-- ==== Sys2Proof/Word.lean ====
section
/-!
DEFINITION. The word types of WSENC (spec 20_memory R60, R80; 10_state R20): one register is 16 bits,
a register address 4 bits, a frame byte 8 bits, a checksum nibble 4 bits.
-/

namespace Sys2Proof

/-- A register, the host's data bus and a command word (00_scope R5 `REG_W`; 30_encoding R85). -/
abbrev Word := BitVec 16

/-- One byte of the frame buffer (10_state R26). -/
abbrev Byte := BitVec 8

/-- Four bits: a checksum term or the checksum itself (41_checksum_frame R121). -/
abbrev Nibble := BitVec 4

/-- A register address (00_scope R5 `ADDR_W`; 20_memory R60). -/
abbrev RegAddr := BitVec 4

end Sys2Proof
end

