-- ==== Sys2Proof/Machine/Port.lean ====
section
/-!
DEFINITION. The ports of WSENC as data (spec 10_state R37): the sixteen registers of the map (20_memory R65),
a host request (20_memory R61), what a host may do next (20_memory R78; 30_encoding R91, R92), one cycle's
sample of the other inputs, and one cycle's outputs.
-/

namespace Sys2Proof.Machine

/-- The registers of the map, in address order (20_memory R65). -/
inductive Reg where
  | temp | hum | id | chan | batt | frame01 | frame23 | frame4
  | flen | arg | cmd | irq | wdt | ticks | txpos | status
  deriving DecidableEq, Repr

/-- A host request (20_memory R61): `req_we_i`, `req_addr_i` and `req_wdata_i` of a cycle with
`req_valid_i = 1`. -/
structure Request where
  we : Bool
  addr : RegAddr
  data : Word
  deriving DecidableEq, Repr

/-- What the host does next on the register port (20_memory R78). -/
inductive HostAction where
  /-- Present the request in every cycle until it is accepted (R78; 30_encoding R91). -/
  | request (r : Request)
  /-- Present the request for one cycle and withdraw it if it is not accepted (R61). -/
  | offer (r : Request)
  /-- Present nothing for one cycle. -/
  | idle
  /-- `WAITIDLE`: read STATUS until bits 2..0 are 0 (30_encoding R92). -/
  | waitIdle
  /-- `SEI`: write IRQ with its enables as they stand and GIE set (30_encoding R92). -/
  | sei
  /-- `CLI`: write IRQ with its enables as they stand and GIE clear (30_encoding R92). -/
  | cli
  deriving DecidableEq, Repr

/-- The inputs of one cycle other than the request (10_state R37): `rst_i`, `rst_cause_wdt_i`, `pcint_i`. -/
structure PinSample where
  rst : Bool
  rstCauseWdt : Bool
  pcint : Bool
  deriving DecidableEq, Repr

/-- The outputs of one cycle (10_state R37). -/
structure Outputs where
  rfPin : Bool
  cpuHalt : Bool
  analogEn : Bool
  reqReady : Bool
  rspRdata : Word
  deriving DecidableEq, Repr

end Sys2Proof.Machine
end

