-- ==== Sys2Proof/Syntax.lean ====
section
/-!
DEFINITION. The ten commands of WSENC (spec 30_encoding R87), one constructor per row of opcode_table.json.
No command has an operand field (R86): each reads its operands from registers.
-/

namespace Sys2Proof

/-- A command (30_encoding R87), in opcode order. -/
inductive Instr where
  /-- `NOP` (40_dispatch R102). -/
  | nop
  /-- `BUILD` (41_checksum_frame R131). -/
  | build
  /-- `CKSUM` (41_checksum_frame R123). -/
  | cksum
  /-- `SEND_FRAME` (42_transmitter R150). -/
  | sendFrame
  /-- `SEND_SYNC` (42_transmitter R151). -/
  | sendSync
  /-- `SEND_ZERO` (42_transmitter R152). -/
  | sendZero
  /-- `SEND_ONE` (42_transmitter R153). -/
  | sendOne
  /-- `WDT_SETUP` (43_scheduler R171). -/
  | wdtSetup
  /-- `SLEEP` (43_scheduler R174). -/
  | sleep
  /-- `SLEEP_PIN` (43_scheduler R179). -/
  | sleepPin
  deriving DecidableEq, Repr

end Sys2Proof
end

