-- ==== Sys2Proof/WellFormed.lean ====
section
/-!
DEFINITION. Well-formed commands and host requests. A command has no operand, so every one is well formed
(spec 30_encoding R86); a request word of a read carries data 0 (30_encoding R90).
-/

namespace Sys2Proof

/-- Every command is well formed: no command has an operand field or an immediate (30_encoding R86). -/
def Instr.wellFormed : Instr → Bool
  | .nop => true
  | .build => true
  | .cksum => true
  | .sendFrame => true
  | .sendSync => true
  | .sendZero => true
  | .sendOne => true
  | .wdtSetup => true
  | .sleep => true
  | .sleepPin => true

/-- A request as a program writes it: the data of a read is 0 (30_encoding R90). -/
def Machine.Request.wellFormed (r : Machine.Request) : Bool := r.we || r.data == 0

/-- An action of a host program whose request, if it has one, is well formed. -/
def Machine.HostAction.wellFormed : Machine.HostAction → Bool
  | .request r => r.wellFormed
  | .offer r => r.wellFormed
  | .idle => true
  | .waitIdle => true
  | .sei => true
  | .cli => true

end Sys2Proof
end

