-- ==== Sys2Proof/Decode.lean ====
section
/-!
DEFINITION. The command decoder and encoder (spec 30_encoding R85 to R89) and the 21-bit request words of
host programs (30_encoding R90).
-/

namespace Sys2Proof

/-- Why a command word is illegal (30_encoding R89). -/
inductive DecodeError where
  /-- `RSV`, bits 15..4, is not 0. -/
  | reservedNotZero
  /-- `OP`, bits 3..0, is in 0xA..0xF. -/
  | opcodeUnassigned
  deriving DecidableEq, Repr

/-- The field `OP` of a command word (30_encoding R85). -/
def opField (w : Word) : BitVec 4 := w.extractLsb' 0 4

/-- The field `RSV` of a command word (30_encoding R85). -/
def rsvField (w : Word) : BitVec 12 := w.extractLsb' 4 12

/-- The opcode map (30_encoding R87), from opcode to command. -/
def instrOfOpcode (op : BitVec 4) : Option Instr :=
  match op.toNat with
  | 0x0 => some .nop
  | 0x1 => some .build
  | 0x2 => some .cksum
  | 0x3 => some .sendFrame
  | 0x4 => some .sendSync
  | 0x5 => some .sendZero
  | 0x6 => some .sendOne
  | 0x7 => some .wdtSetup
  | 0x8 => some .sleep
  | 0x9 => some .sleepPin
  | _ => none

/-- The decoder of 30_encoding R88, naming why an illegal word is one. -/
def decodeNamed (w : Word) : Except DecodeError Instr :=
  if rsvField w = 0 then
    match instrOfOpcode (opField w) with
    | some i => .ok i
    | none => .error .opcodeUnassigned
  else .error .reservedNotZero

/-- The decoder of 30_encoding R88; `none` is ILLEGAL. -/
def decode (w : Word) : Option Instr :=
  match decodeNamed w with
  | .ok i => some i
  | .error _ => none

/-- The opcode map (30_encoding R87), from command to opcode. -/
def opcode : Instr → BitVec 4
  | .nop => 0x0
  | .build => 0x1
  | .cksum => 0x2
  | .sendFrame => 0x3
  | .sendSync => 0x4
  | .sendZero => 0x5
  | .sendOne => 0x6
  | .wdtSetup => 0x7
  | .sleep => 0x8
  | .sleepPin => 0x9

/-- The command word: `RSV = 0` above the opcode (30_encoding R85). -/
def encode (i : Instr) : Word := 0#12 ++ opcode i

/-- The command word whose low `nbits` bits are those of `w` and whose other bits are 0: a command is always one
16-bit word (30_encoding R85). -/
def tableWord (nbits w : Nat) : Word := BitVec.ofNat 16 (w % 2 ^ nbits)

/-- The command the decoder reads from a table word; a number with a bit above the one command word is none. -/
def decodeTableWord (nbits w : Nat) : Option Instr :=
  if w % 2 ^ nbits < 65536 then decode (tableWord nbits w) else none

/-- A host request as the 21-bit word `{WE, ADDR, DATA}` (30_encoding R90). -/
def encodeRequest (r : Machine.Request) : BitVec 21 := BitVec.ofBool r.we ++ r.addr ++ r.data

/-- The request a 21-bit request word stands for (30_encoding R90). -/
def decodeRequest (q : BitVec 21) : Machine.Request :=
  { we := q.getLsbD 20, addr := q.extractLsb' 16 4, data := q.extractLsb' 0 16 }

end Sys2Proof
end

