-- ==== Sys2Proof/Config.lean ====
section
/-!
DEFINITION. The implementation parameters of WSENC (spec 00_scope R5, R6; 92_eei_decisions, OPEN parameters):
the fixed ones as numbers, the OPEN ones as a record that carries the constraints of R6, and the free values.
-/

namespace Sys2Proof.Config

/-- `N_REPEAT`: repeats of the frame per SEND_FRAME (R5, R8). -/
def nRepeat : Nat := 3

/-- `T_LEAD`: cycles of idle low before the first sync of a frame (R5). -/
def tLead : Nat := 1

/-- `FLEN_MAX`: the largest frame length in bits (R5). -/
def flenMax : Nat := 40

/-- `FLEN_BUILD`: the frame length BUILD sets (R5). -/
def flenBuild : Nat := 36

/-- `WDT_IDX_MAX`: the largest watchdog prescale index (R5, R9). -/
def wdtIdxMax : Nat := 9

/-- `EVT_RESTORE_WDT_IE`: event sleep restores the watchdog wake enable on exit (R5). -/
def evtRestoreWdtIe : Bool := true

/-- The two readings of the temperature's low nibble in the flags byte (R5 `TEMP_NIBBLE_ORDER`;
41_checksum_frame R126). -/
inductive NibbleOrder where
  | reversed
  | straight
  deriving DecidableEq, Repr

/-- `TEMP_NIBBLE_ORDER`: the reading WSENC follows (R5). -/
def tempNibbleOrder : NibbleOrder := .reversed

/-- The OPEN parameters of R5, in cycles, with the constraints of R6 and nothing more. The values after `:=`
are those 95_test_vectors §0 uses for its vectors; they show that the constraints can be met, and no
definition of the model takes them. -/
structure Params where
  /-- `T_SYNC`: the length of a sync pulse. -/
  tSync : Nat := 8
  /-- `T_DUMMY`: the length of the first level of a data bit. -/
  tDummy : Nat := 1
  /-- `T_ZERO`: the length of the second level of a 0. -/
  tZero : Nat := 2
  /-- `T_ONE`: the length of the second level of a 1. -/
  tOne : Nat := 4
  /-- `WDT_BASE`: the watchdog period at index 0. -/
  wdtBase : Nat := 4
  one_le_tDummy : 1 ≤ tDummy := by decide
  tDummy_lt : tDummy < 65536 := by decide
  one_le_tZero : 1 ≤ tZero := by decide
  tZero_lt_tOne : tZero < tOne := by decide
  tOne_lt_tSync : tOne < tSync := by decide
  tSync_lt : tSync < 65536 := by decide
  two_le_wdtBase : 2 ≤ wdtBase := by decide
  wdtBase_le : wdtBase ≤ 32768 := by decide
  deriving DecidableEq, Repr, Inhabited

/-- The parameters of the implementation at hand: uninterpreted, so that a claim holds for every choice
R6 admits (R5 "OPEN is an argument of the model"; log entry 1). -/
opaque params : Params

/-- FREE VALUE. What the transmitter would send as bit `k >= 40` of the frame whose bytes it is given: 42_transmitter
R141 defines frame bits for `k` in 0..39 only. No state reached from reset asks for one (10_state R41 items 3
and 6; log entry 9). -/
opaque bitBeyondFrame : List Byte → Nat → Bool

end Sys2Proof.Config
end

