-- ==== Sys2Proof/Machine/State.lean ====
section
/-!
DEFINITION. The state of WSENC as plain data: the record `S` of spec 10_state R20, and beside it what the model
needs to step without arguments: the implementation's parameters, the coming inputs, and the port's last answer.
-/

namespace Sys2Proof.Machine

/-- What the block is doing (10_state R29). -/
inductive Mode where
  | idle | txSym | txFrame | tSleep | eSleep
  deriving DecidableEq, Repr

/-- The kind of segment the transmitter is in (10_state R32). -/
inductive Phase where
  | none | lead | sync | pulse | hold
  deriving DecidableEq, Repr

/-- The frame buffer `FRAME[0..4]` (10_state R26). -/
structure Frame where
  b0 : Byte
  b1 : Byte
  b2 : Byte
  b3 : Byte
  b4 : Byte
  deriving DecidableEq, Repr

/-- The state of the machine. The first thirty-one fields are the record `S` of 10_state R20, the one-bit ones as
`Bool`; the last five are the model's own. -/
structure State where
  /-- `TEMP`, two's complement tenths of a degree (R21). -/
  temp : Word
  /-- `HUM` (R22). -/
  hum : Word
  /-- `ID` (R23). -/
  devId : BitVec 6
  /-- `CHAN` (R24). -/
  chan : BitVec 2
  /-- `BATT_OK` (R25). -/
  battOk : Bool
  /-- `FRAME` (R26). -/
  frame : Frame
  /-- `FLEN`, in bits (R27). -/
  flen : BitVec 6
  /-- `ARG` (R28). -/
  arg : Word
  /-- `MODE` (R29). -/
  mode : Mode
  /-- `PIN` (R30). -/
  pin : Bool
  /-- `POL` (R31). -/
  pol : Bool
  /-- `PHASE` (R32). -/
  phase : Phase
  /-- `CNT`, cycles left in the segment (R33). -/
  cnt : BitVec 16
  /-- `REP` (R34). -/
  rep : BitVec 2
  /-- `BIT` (R35). -/
  bitIdx : BitVec 6
  /-- `SYM` (R36). -/
  sym : Bool
  /-- `HALT` (R38). -/
  halt : Bool
  /-- `ANALOG_EN` (R38). -/
  analogEn : Bool
  /-- `TICKS` (R38). -/
  ticks : Word
  /-- `SAVED_WIE` (R38). -/
  savedWie : Bool
  /-- `GIE` (R39). -/
  gie : Bool
  /-- `WDT_IE` (R39). -/
  wdtIe : Bool
  /-- `PC_IE` (R39). -/
  pcIe : Bool
  /-- `WDT_IF` (R39). -/
  wdtIf : Bool
  /-- `PC_IF` (R39). -/
  pcIf : Bool
  /-- `WDRF` (R39). -/
  wdrf : Bool
  /-- `PC_LAST` (R39). -/
  pcLast : Bool
  /-- `WDT_EN` (R39). -/
  wdtEn : Bool
  /-- `WDT_IDX` (R39). -/
  wdtIdx : BitVec 4
  /-- `WDT_CNT` (R39). -/
  wdtCnt : BitVec 24
  /-- `CMD_ERR` (R39). -/
  cmdErr : Bool
  /-- MODEL'S OWN. The OPEN parameters of 00_scope R5; no step writes them (log entry 1). -/
  params : Config.Params
  /-- MODEL'S OWN. The host's coming actions, first one first; none left is a silent host (log entries 2, 3). -/
  host : List HostAction
  /-- MODEL'S OWN. The coming cycles' samples of the other inputs; none left is no reset and a steady `pcint_i`
  (log entry 2). -/
  pins : List PinSample
  /-- MODEL'S OWN. `req_ready_o` of the last cycle (log entry 5). -/
  reqReady : Bool
  /-- MODEL'S OWN. `rsp_rdata_o` of the last cycle (log entry 5). -/
  rspRdata : Word
  deriving DecidableEq, Repr

/-- The state after a reset cycle with `rst_cause_wdt_i = 0` and `pcint_i = 0` (70_reset_and_hazards R220; the two
inputs are DESIGN CHOICE, log entry 4), on an implementation with unknown parameters, with no input listed. -/
def State.reset : State where
  temp := 0
  hum := 0
  devId := 0
  chan := 0
  battOk := false
  frame := ⟨0, 0, 0, 0, 0⟩
  flen := 36
  arg := 0
  mode := .idle
  pin := false
  pol := false
  phase := .none
  cnt := 0
  rep := 0
  bitIdx := 0
  sym := false
  halt := false
  analogEn := true
  ticks := 0
  savedWie := false
  gie := false
  wdtIe := false
  pcIe := false
  wdtIf := false
  pcIf := false
  wdrf := false
  pcLast := false
  wdtEn := false
  wdtIdx := 0
  wdtCnt := 0
  cmdErr := false
  params := Config.params
  host := []
  pins := []
  reqReady := false
  rspRdata := 0

/-- Why the machine stops with a fault: never. No condition stops WSENC (60_exceptions R190, R192); the one error is
the sticky `CMD_ERR`, which is a next state. So nothing raises a fault, and there is no constructor whose raising
could be safe or unsafe (log entry 17). -/
inductive Fault where
  deriving DecidableEq, Repr

/-- Why a step is refused. -/
inductive Refusal where
  /-- Raised by an arm of `exec` for a command that has no meaning yet; every command has one, so no arm
  raises it. Safe: the model would stop where the hardware goes on. -/
  | notModelled (mnemonic : String)
  deriving DecidableEq, Repr

end Sys2Proof.Machine
end

