-- ==== Sys2Proof/Machine/Operands.lean ====
section
/-!
DEFINITION. How commands and engines read their operands (spec 30_encoding R86): the register an address names,
the bits of the frame stream, clamped and biased values, and the lengths of segments and periods.
-/

namespace Sys2Proof.Machine

/-- The register at an address: all sixteen addresses are defined (20_memory R65, R80). -/
def Reg.ofAddr (a : RegAddr) : Reg :=
  match a.toNat with
  | 0x0 => .temp
  | 0x1 => .hum
  | 0x2 => .id
  | 0x3 => .chan
  | 0x4 => .batt
  | 0x5 => .frame01
  | 0x6 => .frame23
  | 0x7 => .frame4
  | 0x8 => .flen
  | 0x9 => .arg
  | 0xA => .cmd
  | 0xB => .irq
  | 0xC => .wdt
  | 0xD => .ticks
  | 0xE => .txpos
  | _ => .status

/-- The address of a register (20_memory R65). -/
def Reg.addr : Reg → RegAddr
  | .temp => 0x0
  | .hum => 0x1
  | .id => 0x2
  | .chan => 0x3
  | .batt => 0x4
  | .frame01 => 0x5
  | .frame23 => 0x6
  | .frame4 => 0x7
  | .flen => 0x8
  | .arg => 0x9
  | .cmd => 0xA
  | .irq => 0xB
  | .wdt => 0xC
  | .ticks => 0xD
  | .txpos => 0xE
  | .status => 0xF

/-- `rev4`: the four bits in the other order (00_scope R10). -/
def rev4 (x : Nibble) : Nibble :=
  BitVec.ofBool (x.getLsbD 0) ++ BitVec.ofBool (x.getLsbD 1) ++ BitVec.ofBool (x.getLsbD 2) ++
    BitVec.ofBool (x.getLsbD 3)

/-- The high nibble of a byte, which the stream sends first (41_checksum_frame R121). -/
def hiNibble (b : Byte) : Nibble := b.extractLsb' 4 4

/-- The low nibble of a byte (41_checksum_frame R121). -/
def loNibble (b : Byte) : Nibble := b.extractLsb' 0 4

/-- The frame buffer as a list of bytes, byte 0 first (10_state R26). -/
def Frame.bytes (f : Frame) : List Byte := [f.b0, f.b1, f.b2, f.b3, f.b4]

/-- `FrameBit(S, k)`, which is `FRAME[k >> 3][7 - (k mod 8)]` for `k` in 0..39 (42_transmitter R141); beyond, a free
value (log entry 9). -/
def frameBit (f : Frame) (k : Nat) : Bool :=
  match f.bytes[k / 8]? with
  | some b => b.getLsbD (7 - k % 8)
  | none => Config.bitBeyondFrame f.bytes k

/-- What FLEN holds after a write of `v`: `min(v, 40)` (10_state R27; 20_memory R72). -/
def clampFlen (v : Word) : BitVec 6 := BitVec.ofNat 6 (min v.toNat Config.flenMax)

/-- The prescale index a request `v` selects: `min(v, 9)` (43_scheduler R171; 00_scope R9). -/
def clampWdtIdx (v : Word) : BitVec 4 := BitVec.ofNat 4 (min v.toNat Config.wdtIdxMax)

/-- `tb`: the temperature with the bias of a negative one (41_checksum_frame R125). -/
def biasedTemp (temp : Word) : Int := if temp.toInt < 0 then temp.toInt + 4096 else temp.toInt

/-- `T12 = tb mod 4096` (41_checksum_frame R125). -/
def temp12 (temp : Word) : BitVec 12 := BitVec.ofInt 12 (biasedTemp temp)

/-- `Period(i) = WDT_BASE << i`, in cycles (60_exceptions R200). -/
def period (p : Config.Params) (i : BitVec 4) : Nat := p.wdtBase <<< i.toNat

/-- The length of a data bit's second level: `T_ONE` or `T_ZERO` (42_transmitter R146). -/
def holdCycles (p : Config.Params) (b : Bool) : Nat := if b then p.tOne else p.tZero

/-- A segment length as `CNT` is loaded with it; every one fits (00_scope R6). -/
def cycles (d : Nat) : BitVec 16 := BitVec.ofNat 16 d

end Sys2Proof.Machine
end

