-- ==== Sys2Proof/Machine/Flags.lean ====
section
/-!
DEFINITION. The register images the host reads (spec 20_memory R64, R65), the status views among them, and the
outputs that are a function of the state alone (10_state R37).
-/

namespace Sys2Proof.Machine

/-- A one-bit field as a word with that bit 0. -/
def bitWord (b : Bool) : Word := if b then 1 else 0

/-- The code of `MODE` in `STATUS[2:0]` (10_state R29). -/
def Mode.code : Mode → Word
  | .idle => 0
  | .txSym => 1
  | .txFrame => 2
  | .tSleep => 3
  | .eSleep => 4

/-- The code of `PHASE` in `TXPOS[14:12]` (10_state R32). -/
def Phase.code : Phase → Word
  | .none => 0
  | .lead => 1
  | .sync => 2
  | .pulse => 3
  | .hold => 4

/-- The three enables as `IRQ[2:0]` (20_memory R75). -/
def enablesImage (s : State) : Word := bitWord s.pcIe <<< 2 ||| bitWord s.wdtIe <<< 1 ||| bitWord s.gie

/-- `IRQ` (20_memory R64, R75). -/
def irqImage (s : State) : Word :=
  bitWord s.wdrf <<< 8 ||| bitWord s.pcIf <<< 5 ||| bitWord s.wdtIf <<< 4 ||| enablesImage s

/-- `WDT` (20_memory R64, R76). -/
def wdtImage (s : State) : Word := bitWord s.wdtEn <<< 4 ||| s.wdtIdx.zeroExtend 16

/-- `TXPOS` (20_memory R64, R77). -/
def txposImage (s : State) : Word :=
  s.phase.code <<< 12 ||| bitWord s.sym <<< 10 ||| s.rep.zeroExtend 16 <<< 8 ||| s.bitIdx.zeroExtend 16

/-- `STATUS` (20_memory R64, R77). -/
def statusImage (s : State) : Word :=
  bitWord s.cmdErr <<< 7 ||| bitWord s.analogEn <<< 6 ||| bitWord s.halt <<< 5 ||| bitWord s.pol <<< 4 |||
    bitWord s.pin <<< 3 ||| s.mode.code

/-- The value a read of a register returns (20_memory R64). -/
def readReg (s : State) : Reg → Word
  | .temp => s.temp
  | .hum => s.hum
  | .id => s.devId.zeroExtend 16
  | .chan => s.chan.zeroExtend 16
  | .batt => bitWord s.battOk
  | .frame01 => s.frame.b0 ++ s.frame.b1
  | .frame23 => s.frame.b2 ++ s.frame.b3
  | .frame4 => s.frame.b4.zeroExtend 16
  | .flen => s.flen.zeroExtend 16
  | .arg => s.arg
  | .cmd => 0
  | .irq => irqImage s
  | .wdt => wdtImage s
  | .ticks => s.ticks
  | .txpos => txposImage s
  | .status => statusImage s

/-- `RegRead(S, a)` (20_memory R64). -/
def regRead (s : State) (a : RegAddr) : Word := readReg s (Reg.ofAddr a)

/-- `rf_pin_o` (10_state R30, R37). -/
def rfPinO (s : State) : Bool := s.pin

/-- `cpu_halt_o` (10_state R37, R38). -/
def cpuHaltO (s : State) : Bool := s.halt

/-- `analog_en_o` (10_state R37, R38). -/
def analogEnO (s : State) : Bool := s.analogEn

end Sys2Proof.Machine
end

