-- ==== Sys2Proof/Machine/Ops.lean ====
section
/-!
DEFINITION. The named operations the cycle is made of (spec 10_state R40): the host port (20_memory R61, R62,
R78), the data registers (20_memory R63), reset (70_reset_and_hazards R220), the one error (60_exceptions R191), and the
watchdog, delivery and pending flags (60_exceptions R196 to R201), in which an interrupt is taken.
-/

namespace Sys2Proof.Machine

/-- This cycle's sample of `rst_i`, `rst_cause_wdt_i` and `pcint_i`; where none is listed, no reset and `pcint_i` as it
was (log entry 2). -/
def pinSample (s : State) : PinSample :=
  match s.pins with
  | [] => { rst := false, rstCauseWdt := false, pcint := s.pcLast }
  | p :: _ => p

/-- A read of STATUS, which WAITIDLE repeats (30_encoding R92). -/
def statusRead : Request := { we := false, addr := Reg.status.addr, data := 0 }

/-- A write of IRQ, which SEI and CLI expand to (30_encoding R92). -/
def irqWrite (v : Word) : Request := { we := true, addr := Reg.irq.addr, data := v }

/-- The request presented in this cycle (20_memory R61). SEI and CLI read the enables of the cycle they are
presented in, which is the one they are accepted in if they are (30_encoding R92). -/
def presented (s : State) : Option Request :=
  match s.host with
  | [] => none
  | .idle :: _ => none
  | .request r :: _ => some r
  | .offer r :: _ => some r
  | .waitIdle :: _ => some statusRead
  | .sei :: _ => some (irqWrite (enablesImage s ||| 1))
  | .cli :: _ => some (irqWrite (enablesImage s &&& 6))

/-- The request accepted in this cycle: a read always, a write only when `MODE = IDLE` (20_memory R62), nothing in a
reset cycle (70_reset_and_hazards R220). -/
def accepted (s : State) : Option Request :=
  match presented s with
  | none => none
  | some r => if !(pinSample s).rst && (!r.we || s.mode == .idle) then some r else none

/-- The accepted request when it is a write: `acc_write` (10_state R40). -/
def acceptedWrite (s : State) : Option Request := (accepted s).filter (·.we)

/-- `req_ready_o` of this cycle (20_memory R62). -/
def reqReadyO (s : State) : Bool := (accepted s).isSome

/-- `rsp_rdata_o` of this cycle: the read value, or 0 with no accepted read (20_memory R64). -/
def rspRdataO (s : State) : Word :=
  match accepted s with
  | none => 0
  | some r => if r.we then 0 else regRead s r.addr

/-- The outputs of this cycle (10_state R37, R40; 70_reset_and_hazards R220). -/
def outputs (s : State) : Outputs where
  rfPin := rfPinO s
  cpuHalt := cpuHaltO s
  analogEn := analogEnO s
  reqReady := reqReadyO s
  rspRdata := rspRdataO s

/-- What the host has left to do after this cycle (20_memory R78; 30_encoding R91, R92): a held request goes when it is
accepted, an offer and an idle cycle go in any case, WAITIDLE goes when its read shows IDLE. -/
def hostAfter (s : State) : List HostAction :=
  match s.host with
  | [] => []
  | .idle :: rest => rest
  | .offer _ :: rest => rest
  | .request r :: rest => if reqReadyO s then rest else .request r :: rest
  | .waitIdle :: rest => if reqReadyO s && rspRdataO s &&& 7 == 0 then rest else .waitIdle :: rest
  | .sei :: rest => if reqReadyO s then rest else .sei :: rest
  | .cli :: rest => if reqReadyO s then rest else .cli :: rest

/-- The cycle's inputs are used up and the port's answer is kept (log entries 2, 5). -/
def takePort (s : State) : State :=
  { s with
    host := hostAfter s
    pins := s.pins.tail
    reqReady := reqReadyO s
    rspRdata := rspRdataO s }

/-- `Reset(S, in)`, next state (70_reset_and_hazards R220). -/
def applyReset (rstCauseWdt pcint : Bool) (s : State) : State :=
  { s with
    temp := 0
    hum := 0
    devId := 0
    chan := 0
    battOk := false
    frame := ⟨0, 0, 0, 0, 0⟩
    flen := 36
    arg := 0
    mode := .idle
    pin := false
    pol := false
    phase := .none
    cnt := 0
    rep := 0
    bitIdx := 0
    sym := false
    halt := false
    analogEn := true
    ticks := 0
    savedWie := false
    gie := false
    wdtIe := false
    pcIe := false
    wdtIf := false
    pcIf := false
    wdrf := rstCauseWdt
    pcLast := pcint
    wdtEn := false
    wdtIdx := 0
    wdtCnt := 0
    cmdErr := false }

/-- `raise CmdError`, the one exception of WSENC: the sticky flag is set and nothing else happens (60_exceptions R191;
40_dispatch R103). Nothing returns from it: only reset clears the flag. -/
def raiseCmdError (s : State) : State := { s with cmdErr := true }

/-- The effect of an accepted write on every register but CMD, whose write executes a command instead
(20_memory R63). -/
def writeReg (s : State) (v : Word) : Reg → State
  | .temp => { s with temp := v }
  | .hum => { s with hum := v }
  | .id => { s with devId := v.extractLsb' 0 6 }
  | .chan => { s with chan := v.extractLsb' 0 2 }
  | .batt => { s with battOk := v.getLsbD 0 }
  | .frame01 => { s with frame := { s.frame with b0 := v.extractLsb' 8 8, b1 := v.extractLsb' 0 8 } }
  | .frame23 => { s with frame := { s.frame with b2 := v.extractLsb' 8 8, b3 := v.extractLsb' 0 8 } }
  | .frame4 => { s with frame := { s.frame with b4 := v.extractLsb' 0 8 } }
  | .flen => { s with flen := clampFlen v }
  | .arg => { s with arg := v }
  | .cmd => s
  | .irq => { s with gie := v.getLsbD 0, wdtIe := v.getLsbD 1, pcIe := v.getLsbD 2 }
  | .wdt => s
  | .ticks => s
  | .txpos => s
  | .status => s

/-- `pc_edge`: `pcint_i` differs from the level of the cycle before (60_exceptions R196). -/
def pcEdge (s : State) (pcint : Bool) : Bool := pcint != s.pcLast

/-- `tick`: the watchdog generator ends a period in this cycle (60_exceptions R201). -/
def wdtTick (s : State) : Bool := s.wdtEn && s.wdtCnt.toNat == period s.params s.wdtIdx - 1

/-- The watchdog counter after this cycle's step (60_exceptions R201). -/
def wdtCntAfter (s : State) : BitVec 24 :=
  if s.wdtEn then (if wdtTick s then 0 else s.wdtCnt + 1) else s.wdtCnt

/-- `dW`: the watchdog interrupt is delivered in this cycle (60_exceptions R197). -/
def deliverWdt (s : State) : Bool := s.gie && s.wdtIe && s.wdtIf

/-- `dP`: the pin-change interrupt is delivered in this cycle (60_exceptions R197). -/
def deliverPc (s : State) : Bool := s.gie && s.pcIe && s.pcIf

/-- `wake`: some interrupt is delivered in this cycle (60_exceptions R197). -/
def wake (s : State) : Bool := deliverWdt s || deliverPc s

/-- Phases 1 to 4 of a cycle (10_state R40): edge, watchdog, delivery and pending flags (60_exceptions R196, R201, R197,
R198). A delivery saves nothing, changes no mask and jumps nowhere (60_exceptions R199). -/
def wakePhases (pcint : Bool) (s : State) : State :=
  { s with
    pcLast := pcint
    wdtCnt := wdtCntAfter s
    wdtIf := wdtTick s || (s.wdtIf && !deliverWdt s)
    pcIf := pcEdge s pcint || (s.pcIf && !deliverPc s) }

end Sys2Proof.Machine
end

