-- ==== Sys2Proof/Machine/ChecksumFrame.lean ====
section
/-! DEFINITION. The Checksum Engine and the Frame Builder: BUILD and CKSUM (spec 41_checksum_frame). -/

namespace Sys2Proof.Machine

/-- The running sum of the Checksum Engine, its overflow dropped at every step (41_checksum_frame R121). -/
def nibbleSum (nibbles : List Nibble) : Nibble := nibbles.foldl (· + ·) 0

/-- The eight nibbles of four bytes in stream order (41_checksum_frame R121). -/
def nibblesOf (b0 b1 b2 b3 : Byte) : List Nibble :=
  [hiNibble b0, loNibble b0, hiNibble b1, loNibble b1, hiNibble b2, loNibble b2, hiNibble b3, loNibble b3]

/-- `Checksum32` (41_checksum_frame R121). -/
def checksum32 (b0 b1 b2 b3 : Byte) : Nibble := rev4 (nibbleSum (nibblesOf b0 b1 b2 b3))

/-- A checksum as the byte it is stored in: the high nibble, the low one 0 (41_checksum_frame R123, R130). -/
def checksumByte (c : Nibble) : Byte := c.zeroExtend 8 <<< 4

/-- The identity byte: `ID[5:2] << 4 | CHAN << 2 | ID[1:0]` (41_checksum_frame R127). -/
def identityByte (devId : BitVec 6) (chan : BitVec 2) : Byte :=
  (devId.extractLsb' 2 4).zeroExtend 8 <<< 4 ||| chan.zeroExtend 8 <<< 2 ||| (devId.extractLsb' 0 2).zeroExtend 8

/-- `nib`: the temperature's four low bits as the flags byte carries them (41_checksum_frame R126). Under `REVERSED`
bit `i` goes to bit `3 - i`; under `STRAIGHT` it stays. -/
def tempNibble (order : Config.NibbleOrder) (temp : Word) : Byte :=
  match order with
  | .reversed => [0, 1, 2, 3].foldl (fun nib i => if temp.getLsbD i then nib ||| 1 <<< (3 - i) else nib) 0
  | .straight => (temp.extractLsb' 0 4).zeroExtend 8

/-- The flags byte: `not BATT_OK` in bit 7, bits 6..4 zero, the nibble below (41_checksum_frame R126). -/
def flagsByte (order : Config.NibbleOrder) (battOk : Bool) (temp : Word) : Byte :=
  (BitVec.ofBool !battOk).zeroExtend 8 <<< 7 ||| tempNibble order temp

/-- The temperature byte: `T12 >> 4` (41_checksum_frame R129). -/
def tempByte (temp : Word) : Byte := (temp12 temp).extractLsb' 4 8

/-- The humidity byte: `(HUM + 156) mod 256` (41_checksum_frame R128). -/
def humByte (hum : Word) : Byte := BitVec.ofNat 8 (hum.toNat + 156)

/-- The frame of a reading (41_checksum_frame R124, R131), under either nibble order. -/
def buildFrame (order : Config.NibbleOrder) (s : State) : Frame :=
  let b0 := identityByte s.devId s.chan
  let b1 := flagsByte order s.battOk s.temp
  let b2 := tempByte s.temp
  let b3 := humByte s.hum
  { b0 := b0, b1 := b1, b2 := b2, b3 := b3, b4 := checksumByte (checksum32 b0 b1 b2 b3) }

/-- `ExecBUILD` (41_checksum_frame R131). -/
def execBuild (s : State) : Host.Outcome State Fault Refusal :=
  .next { s with
    frame := buildFrame Config.tempNibbleOrder s
    flen := BitVec.ofNat 6 Config.flenBuild }

/-- `ExecCKSUM` (41_checksum_frame R123). -/
def execCksum (s : State) : Host.Outcome State Fault Refusal :=
  .next { s with
    frame := { s.frame with b4 := checksumByte (checksum32 s.frame.b0 s.frame.b1 s.frame.b2 s.frame.b3) } }

end Sys2Proof.Machine
end

