-- ==== Sys2Proof/Machine/NoOperation.lean ====
section
/-! DEFINITION. The command NOP (spec 40_dispatch R102). -/

namespace Sys2Proof.Machine

/-- `ExecNOP`: nothing (40_dispatch R102). -/
def execNop (s : State) : Host.Outcome State Fault Refusal := .next s

end Sys2Proof.Machine
end

