-- ==== Sys2Proof/Machine/Scheduler.lean ====
section
/-!
DEFINITION. The Duty-Cycle Scheduler: WDT_SETUP, SLEEP and SLEEP_PIN, and the steps of the two sleeps
(spec 43_scheduler).
-/

namespace Sys2Proof.Machine

/-- `ExecWDT_SETUP` (43_scheduler R171). -/
def execWdtSetup (s : State) : Host.Outcome State Fault Refusal :=
  .next { s with
    wdtIdx := clampWdtIdx s.arg
    wdtEn := true
    wdtIe := true
    wdrf := false
    wdtCnt := 0 }

/-- `ExecSLEEP` (43_scheduler R174). -/
def execSleep (s : State) : Host.Outcome State Fault Refusal :=
  .next (if s.arg = 0 then { s with ticks := 0 }
    else { s with ticks := 0, mode := .tSleep, analogEn := false, halt := true })

/-- `ExecSLEEP_PIN` (43_scheduler R179). -/
def execSleepPin (s : State) : Host.Outcome State Fault Refusal :=
  .next { s with
    savedWie := s.wdtIe
    wdtIe := false
    pcIf := false
    pcIe := true
    gie := true
    halt := true
    mode := .eSleep }

/-- `TSleepStep` (43_scheduler R176); `woken` is this cycle's `wake`. -/
def tSleepStep (woken : Bool) (s : State) : State :=
  if s.halt then
    if woken then
      if s.arg.toNat ≤ s.ticks.toNat + 1 then
        { s with ticks := s.ticks + 1, halt := false, mode := .idle, analogEn := true }
      else { s with ticks := s.ticks + 1, halt := false }
    else s
  else { s with halt := true }

/-- `ESleepStep` (43_scheduler R181), under either value of `EVT_RESTORE_WDT_IE`; `dP` is this cycle's pin-change
delivery. -/
def eSleepStepWith (restore : Bool) (dP : Bool) (s : State) : State :=
  if dP then
    { s with
      halt := false
      pcIe := false
      wdtIe := restore && s.savedWie
      gie := true
      mode := .idle }
  else s

/-- `ESleepStep` under WSENC's `EVT_RESTORE_WDT_IE = 1` (43_scheduler R181; 00_scope R5). -/
def eSleepStep (dP : Bool) (s : State) : State := eSleepStepWith Config.evtRestoreWdtIe dP s

end Sys2Proof.Machine
end

