-- ==== Sys2Proof/Machine/Transmitter.lean ====
section
/-!
DEFINITION. The Symbol and Frame Transmitter: its sequencer step and the commands SEND_FRAME, SEND_SYNC, SEND_ZERO
and SEND_ONE (spec 42_transmitter).
-/

namespace Sys2Proof.Machine

/-- `StartSync` (42_transmitter R143). -/
def startSync (s : State) : State :=
  { s with
    pin := !s.pol
    pol := !s.pol
    phase := .sync
    cnt := cycles s.params.tSync }

/-- `StartBit(b)` (42_transmitter R144). -/
def startBit (b : Bool) (s : State) : State :=
  { s with
    pin := !s.pol
    phase := .pulse
    cnt := cycles s.params.tDummy
    sym := b }

/-- `EndPulse` (42_transmitter R146). -/
def endPulse (s : State) : State :=
  { s with
    pin := s.pol
    phase := .hold
    cnt := cycles (holdCycles s.params s.sym) }

/-- `EndSymbol` (42_transmitter R147). -/
def endSymbol (s : State) : State := { s with mode := .idle, phase := .none, cnt := 0 }

/-- The end of the last repeat (42_transmitter R149, its second case). -/
def endFrame (s : State) : State :=
  { s with
    pin := false
    pol := false
    mode := .idle
    phase := .none
    cnt := 0 }

/-- `EndRepeat` (42_transmitter R149). -/
def endRepeat (s : State) : State :=
  if s.rep.toNat + 1 < Config.nRepeat then startSync { s with rep := s.rep + 1, bitIdx := 0 } else endFrame s

/-- `nxt`: the index of the frame bit after this segment (42_transmitter R148). -/
def nextBitIdx (s : State) : Nat := if s.phase = .sync then 0 else s.bitIdx.toNat + 1

/-- `NextInFrame` (42_transmitter R148). -/
def nextInFrame (s : State) : State :=
  if nextBitIdx s < s.flen.toNat then
    startBit (frameBit s.frame (nextBitIdx s)) { s with bitIdx := BitVec.ofNat 6 (nextBitIdx s) }
  else endRepeat s

/-- The end of the current segment (42_transmitter R145). A segment of `PHASE = NONE` does not occur in a transmission
(10_state R32); R145 lists no case for it, and nothing is written (log entry 7). -/
def endSegment (s : State) : State :=
  match s.phase with
  | .none => s
  | .lead => startSync s
  | .pulse => endPulse s
  | .sync => if s.mode = .txSym then endSymbol s else nextInFrame s
  | .hold => if s.mode = .txSym then endSymbol s else nextInFrame s

/-- `TxStep` (42_transmitter R145). -/
def txStep (s : State) : State := if 1 < s.cnt.toNat then { s with cnt := s.cnt - 1 } else endSegment s

/-- `ExecSEND_FRAME` (42_transmitter R150). -/
def execSendFrame (s : State) : Host.Outcome State Fault Refusal :=
  .next { s with
    mode := .txFrame
    pin := false
    pol := false
    phase := .lead
    cnt := cycles Config.tLead
    rep := 0
    bitIdx := 0 }

/-- What the three symbol commands do before their first segment (42_transmitter R151, R152). -/
def beginSymbol (s : State) : State := { s with mode := .txSym, rep := 0, bitIdx := 0 }

/-- `ExecSEND_SYNC` (42_transmitter R151). -/
def execSendSync (s : State) : Host.Outcome State Fault Refusal := .next (startSync (beginSymbol s))

/-- `ExecSEND_BIT(0)` (42_transmitter R152). -/
def execSendZero (s : State) : Host.Outcome State Fault Refusal := .next (startBit false (beginSymbol s))

/-- `ExecSEND_BIT(1)` (42_transmitter R153). -/
def execSendOne (s : State) : Host.Outcome State Fault Refusal := .next (startBit true (beginSymbol s))

end Sys2Proof.Machine
end

