-- ==== Sys2Proof/Machine/Dispatch.lean ====
section
/-! DEFINITION. The effect of each command at acceptance, one arm per command (spec 40_dispatch R101). -/

namespace Sys2Proof.Machine

def exec (i : Instr) (s : State) : Host.Outcome State Fault Refusal :=
  match i with
  | .nop => Sys2Proof.Machine.execNop s
  | .build => Sys2Proof.Machine.execBuild s
  | .cksum => Sys2Proof.Machine.execCksum s
  | .sendFrame => Sys2Proof.Machine.execSendFrame s
  | .sendSync => Sys2Proof.Machine.execSendSync s
  | .sendZero => Sys2Proof.Machine.execSendZero s
  | .sendOne => Sys2Proof.Machine.execSendOne s
  | .wdtSetup => Sys2Proof.Machine.execWdtSetup s
  | .sleep => Sys2Proof.Machine.execSleep s
  | .sleepPin => Sys2Proof.Machine.execSleepPin s

end Sys2Proof.Machine
end

