-- ==== Sys2Proof/Machine/Cycle.lean ====
section
/-!
DEFINITION. One clock cycle (spec 10_state R40): the port, phases 1 to 4, the running engine, and the accepted host
write, which executes a command when it is to CMD (20_memory R63; 40_dispatch R101); and how a command is placed
where the next cycle takes it.
-/

namespace Sys2Proof.Machine

/-- `Execute(S, S', v)`: an illegal word raises CmdError (40_dispatch R101, R103). -/
def execute (v : Word) (s : State) : Host.Outcome State Fault Refusal :=
  match decode v with
  | some i => exec i s
  | none => .next (raiseCmdError s)

/-- `RegWrite(S, S', a, v)`, phase 6 of a cycle (20_memory R63). -/
def regWrite (a : RegAddr) (v : Word) (s : State) : Host.Outcome State Fault Refusal :=
  if Reg.ofAddr a = .cmd then execute v s else .next (writeReg s v (Reg.ofAddr a))

/-- Phase 5 of a cycle (10_state R40); `woken` and `dP` are the deliveries of phase 3. -/
def engineStep (woken dP : Bool) (s : State) : State :=
  match s.mode with
  | .idle => s
  | .txSym => txStep s
  | .txFrame => txStep s
  | .tSleep => tSleepStep woken s
  | .eSleep => eSleepStep dP s

/-- The cycle up to the host write: the port's inputs are taken, then phases 1 to 5 (10_state R40). -/
def cycleBeforeWrite (s : State) : State :=
  engineStep (wake s) (deliverPc s) (wakePhases (pinSample s).pcint (takePort s))

/-- One clock cycle: a reset cycle (70_reset_and_hazards R220), or the step of 10_state R40. -/
def cycle (s : State) : Host.Outcome State Fault Refusal :=
  if (pinSample s).rst then
    .next (applyReset (pinSample s).rstCauseWdt (pinSample s).pcint (takePort s))
  else
    match acceptedWrite s with
    | some r => regWrite r.addr r.data (cycleBeforeWrite s)
    | none => .next (cycleBeforeWrite s)

/-- The host's write of a command word (20_memory R74; 30_encoding R91 `CMD`). -/
def cmdWrite (w : Word) : HostAction := .request { we := true, addr := Reg.cmd.addr, data := w }

/-- The next sample is no reset. -/
def withoutReset : List PinSample → List PinSample
  | [] => []
  | p :: rest => { p with rst := false } :: rest

/-- `s` with a command word presented in the next cycle, which takes it: the block idle, no reset in that cycle, the
write at the head of the host's actions (log entry 11). -/
def placeCommand (w : Word) (s : State) : State :=
  { s with
    mode := .idle
    host := cmdWrite w :: s.host
    pins := withoutReset s.pins }

end Sys2Proof.Machine
end

