-- ==== Sys2Proof/Machine/HostProgram.lean ====
section
/-! DEFINITION. Host programs (spec 30_encoding R91, R92; 70_reset_and_hazards R226, R227) as lists of host actions. -/

namespace Sys2Proof.Machine

/-- `WR reg, v` (30_encoding R91). -/
def wr (r : Reg) (v : Word) : HostAction := .request { we := true, addr := r.addr, data := v }

/-- `RD reg` (30_encoding R91). -/
def rd (r : Reg) : HostAction := .request { we := false, addr := r.addr, data := 0 }

/-- `CMD mnemonic` (30_encoding R91). -/
def cmd (i : Instr) : HostAction := wr .cmd (encode i)

/-- `WDTINIT i` (30_encoding R92). -/
def wdtInit (i : Word) : List HostAction := [wr .arg i, cmd .wdtSetup]

/-- `SLEEPN n` (30_encoding R92). -/
def sleepN (n : Word) : List HostAction := [wr .arg n, cmd .sleep]

/-- `TXREADING t, h, b, id, ch` (30_encoding R92). -/
def txReading (t h b devId ch : Word) : List HostAction :=
  [wr .temp t, wr .hum h, wr .batt b, wr .id devId, wr .chan ch, cmd .build, cmd .sendFrame]

/-- The boot order (70_reset_and_hazards R226). -/
def boot (i : Word) : List HostAction := wdtInit i ++ [.sei]

/-- One iteration of the duty cycle (70_reset_and_hazards R227). -/
def dutyCycle (t h b devId ch n : Word) : List HostAction := txReading t h b devId ch ++ sleepN n

end Sys2Proof.Machine
end

