-- ==== Sys2Proof/Machine/Run.lean ====
section
/-!
DEFINITION. Runs of cycles, and the end of a run of a host program: its cycle, its end state and its outputs
(spec 70_reset_and_hazards R235; 95_test_vectors §0).
-/

namespace Sys2Proof.Machine

/-- `n` cycles, ended early by a step that does not answer a next state. -/
def runCycles : Nat → State → Host.Outcome State Fault Refusal
  | 0, s => .next s
  | n + 1, s =>
    match step s with
    | .next t => runCycles n t
    | .fault r => .fault r
    | .refused r => .refused r

/-- The action stands for requests of the program; a cycle with nothing presented does not. -/
def HostAction.isRequest : HostAction → Bool
  | .request _ => true
  | .offer _ => true
  | .idle => false
  | .waitIdle => true
  | .sei => true
  | .cli => true

/-- No request of the program is left to present: of a run that has withdrawn none, every request has been accepted
(70_reset_and_hazards R235). -/
def noRequestLeft (s : State) : Bool := !s.host.any HostAction.isRequest

/-- No request left and `MODE = IDLE`: where a run that has not ended before, and has withdrawn no request, ends
(70_reset_and_hazards R235). -/
def atEnd (s : State) : Bool := noRequestLeft s && s.mode == .idle

/-- The host withdraws in this cycle a request the block has not accepted (93_implementation_defined I11). -/
def withdraws (s : State) : Bool :=
  match s.host with
  | .offer _ :: _ => !reqReadyO s
  | _ => false

/-- The end of a run (70_reset_and_hazards R235). -/
structure RunEnd where
  /-- The cycle of the end, the first one of the run being cycle 0 (95_test_vectors §0). -/
  cycle : Nat
  /-- The end state: `S` in that cycle. -/
  state : State
  /-- The outputs of that cycle. -/
  outputs : Outputs
  deriving DecidableEq, Repr

/-- The run ends in this cycle. -/
def endNow (s : State) : RunEnd := { cycle := 0, state := s, outputs := outputs s }

/-- The end of a run, seen from one cycle earlier. -/
def oneCycleLater (e : RunEnd) : RunEnd := { e with cycle := e.cycle + 1 }

/-- The end of the run from `s`, if one of its first `n + 1` cycles is the end. A run that withdraws a request that has not
been accepted has no end, since that request of it never is (70_reset_and_hazards R235; log entry 19). -/
def endWithin : Nat → State → Option RunEnd
  | 0, s => if atEnd s then some (endNow s) else none
  | n + 1, s =>
    if atEnd s then some (endNow s)
    else if withdraws s then none
    else
      match step s with
      | .next t => (endWithin n t).map oneCycleLater
      | .fault _ => none
      | .refused _ => none

/-- The run from `s` ends, and `e` is its end (70_reset_and_hazards R235). -/
abbrev RunEnds (s : State) (e : RunEnd) : Prop := ∃ n, endWithin n s = some e

end Sys2Proof.Machine
end

