-- ==== Sys2Proof/Safety.lean ====
section
/-!
DEFINITION. The terms claims are made in: agreement on the record `S` (spec 10_state R20), the invariants of a
reached state (10_state R41), the inputs of a stretch of cycles and what they can wake (43_scheduler R178, R182), the
waveform of a frame (42_transmitter R154), and the checksum in numbers (41_checksum_frame R122).
-/

namespace Sys2Proof.Machine

/-- The two states have the same record `S` (10_state R20): they differ at most in the model's own fields. -/
def SameS (s t : State) : Prop :=
  t = { s with params := t.params, host := t.host, pins := t.pins, reqReady := t.reqReady, rspRdata := t.rspRdata }

/-- A transmission is running. -/
abbrev Mode.isTx (m : Mode) : Prop := m = .txSym ∨ m = .txFrame

/-- 10_state R41 item 1. -/
abbrev InvIdle (s : State) : Prop := s.mode = .idle → s.pin = s.pol ∧ s.phase = .none ∧ s.cnt = 0

/-- 10_state R41 item 2. -/
abbrev InvTransmit (s : State) : Prop :=
  (s.mode.isTx → s.phase ≠ .none ∧ 1 ≤ s.cnt.toNat) ∧
  (s.mode = .txSym → s.phase = .sync ∨ s.phase = .pulse ∨ s.phase = .hold) ∧
  (s.mode = .txFrame → s.rep.toNat < Config.nRepeat)

/-- 10_state R41 item 3. -/
abbrev InvBit (s : State) : Prop :=
  (s.mode = .txFrame → s.phase = .pulse ∨ s.phase = .hold → s.bitIdx.toNat < s.flen.toNat) ∧
  (s.mode = .txFrame → s.phase = .lead ∨ s.phase = .sync → s.bitIdx = 0)

/-- 10_state R41 item 4. -/
abbrev InvHalt (s : State) : Prop :=
  (s.halt = true → s.mode = .tSleep ∨ s.mode = .eSleep) ∧
  (s.mode = .eSleep → s.halt = true ∧ s.gie = true ∧ s.pcIe = true ∧ s.wdtIe = false)

/-- 10_state R41 item 5. -/
abbrev InvSleep (s : State) : Prop :=
  (s.analogEn = false ↔ s.mode = .tSleep) ∧
  (s.mode = .tSleep → 1 ≤ s.arg.toNat ∧ s.ticks.toNat < s.arg.toNat)

/-- 10_state R41 item 6. -/
abbrev InvRanges (s : State) : Prop :=
  s.wdtIdx.toNat ≤ Config.wdtIdxMax ∧ s.flen.toNat ≤ Config.flenMax ∧
  (s.wdtEn = true → s.wdtCnt.toNat < period s.params s.wdtIdx) ∧ (s.wdtEn = false → s.wdtCnt = 0)

/-- The invariants of 10_state R41. -/
abbrev SpecInv (s : State) : Prop :=
  InvIdle s ∧ InvTransmit s ∧ InvBit s ∧ InvHalt s ∧ InvSleep s ∧ InvRanges s

/-- What the spec says of reached states outside R41, and R41 item 1 needs to be kept by a step: no segment outside a
transmission (10_state R32, R33), and the pin at the tracked polarity but in the first level of a data bit
(42_transmitter R143, R144, R146, R155). -/
abbrev InvLevel (s : State) : Prop :=
  (¬ s.mode.isTx → s.phase = .none ∧ s.cnt = 0) ∧ (s.pin = s.pol ↔ s.phase ≠ .pulse)

/-- The invariant every step keeps. -/
abbrev StateInv (s : State) : Prop := SpecInv s ∧ InvLevel s

/-- No reset in the next `n` cycles. -/
abbrev NoReset (n : Nat) (s : State) : Prop := ∀ p ∈ s.pins.take n, p.rst = false

/-- The next `n` samples hold no reset and no pin change; beyond the listed ones there is neither (log entry 2). -/
abbrev SteadyPin (n : Nat) (s : State) : Prop := ∀ p ∈ s.pins.take n, p.rst = false ∧ p.pcint = s.pcLast

/-- Nothing can wake the timed sleep in `s` in the next `n` cycles: interrupts are disabled, or no watchdog wake and no
pin-change wake can be delivered in a halt period. A flag pending in a wake window is delivered in it and wakes nothing
(43_scheduler R176, R178). -/
abbrev Unwakeable (n : Nat) (s : State) : Prop :=
  s.gie = false ∨
  ((s.wdtIe = false ∨ s.wdtEn = false ∧ (s.halt = true → s.wdtIf = false)) ∧
   (s.pcIe = false ∨ SteadyPin n s ∧ (s.halt = true → s.pcIf = false)))

/-- The block is in the event sleep SLEEP_PIN starts: halted, the pin-change wake armed, the watchdog wake off
(43_scheduler R179; 10_state R41 item 4). -/
abbrev InEventSleep (s : State) : Prop :=
  s.mode = .eSleep ∧ s.halt = true ∧ s.gie = true ∧ s.pcIe = true ∧ s.wdtIe = false

/-- The block has left an event sleep that `s` was in (43_scheduler R181). -/
abbrev AfterEventSleep (s t : State) : Prop :=
  t.mode = .idle ∧ t.halt = false ∧ t.gie = true ∧ t.pcIe = false ∧ t.wdtIe = s.savedWie

/-- No illegal command has been accepted since reset (60_exceptions R191; 92_eei_decisions D17). -/
abbrev NoCommandError (s : State) : Prop := s.cmdErr = false

/-- The levels of one data bit at tracked polarity `pol`, cycle by cycle (42_transmitter R144, R146). -/
def bitWave (p : Config.Params) (pol b : Bool) : List Bool :=
  List.replicate p.tDummy (!pol) ++ List.replicate (holdCycles p b) pol

/-- The levels of one repeat at polarity `pol` after its sync: the sync, then `n` bits (42_transmitter R154). -/
def repeatWave (p : Config.Params) (f : Frame) (n : Nat) (pol : Bool) : List Bool :=
  List.replicate p.tSync pol ++ (List.range n).flatMap (fun k => bitWave p pol (frameBit f k))

/-- The levels of a SEND_FRAME of `n` bits: the lead low, then repeats with the sync high, low and high
(42_transmitter R154). -/
def frameWave (p : Config.Params) (f : Frame) (n : Nat) : List Bool :=
  List.replicate Config.tLead false ++ repeatWave p f n true ++ repeatWave p f n false ++ repeatWave p f n true

/-- The busy time of a SEND_FRAME (42_transmitter R154). -/
def frameBusy (p : Config.Params) (f : Frame) (n : Nat) : Nat :=
  Config.tLead + Config.nRepeat *
    (p.tSync + ((List.range n).map (fun k => p.tDummy + holdCycles p (frameBit f k))).sum)

/-- The four-bit reversal on numbers below 16 (00_scope R10). -/
def reverseFour (n : Nat) : Nat := 8 * (n % 2) + 4 * (n / 2 % 2) + 2 * (n / 4 % 2) + n / 8 % 2

/-- The sum of the eight nibbles of four bytes (41_checksum_frame R122 item 2). -/
def sumOfNibbles (b0 b1 b2 b3 : Byte) : Nat :=
  ([b0, b1, b2, b3].map (fun b => b.toNat / 16 + b.toNat % 16)).sum

/-- The two states agree on everything the transmitter is made of or reads (42_transmitter R140). -/
def SameTransmission (s t : State) : Prop :=
  s.params = t.params ∧ s.frame = t.frame ∧ s.flen = t.flen ∧ s.mode = t.mode ∧ s.pin = t.pin ∧ s.pol = t.pol ∧
  s.phase = t.phase ∧ s.cnt = t.cnt ∧ s.rep = t.rep ∧ s.bitIdx = t.bitIdx ∧ s.sym = t.sym

end Sys2Proof.Machine
end

