-- ==== Sys2Proof/Certificates/Slice0/Obligations.lean ====
section
/-!
DEFINITION. The statements put to the provers, each citing the rules of spec/ it formalises. Where a statement speaks of
the model's own fields (the host's actions, the pin samples, the port's last answer, the parameters), its docstring says so.
-/

open Sys2Proof Sys2Proof.Machine

/-! ## Reset -/

/-- 70_reset_and_hazards R220: the next state and the outputs of a reset cycle, from any state. -/
def Obligations.ResetCycleSetsResetState : Prop :=
  ∀ s : State, (pinSample s).rst = true →
    (∃ t, step s = .next t ∧
      t.temp = 0 ∧ t.hum = 0 ∧ t.devId = 0 ∧ t.chan = 0 ∧ t.battOk = false ∧
      t.frame = ⟨0, 0, 0, 0, 0⟩ ∧ t.flen = 36 ∧ t.arg = 0 ∧
      t.mode = .idle ∧ t.pin = false ∧ t.pol = false ∧ t.phase = .none ∧ t.cnt = 0 ∧
      t.rep = 0 ∧ t.bitIdx = 0 ∧ t.sym = false ∧
      t.halt = false ∧ t.analogEn = true ∧ t.ticks = 0 ∧ t.savedWie = false ∧
      t.gie = false ∧ t.wdtIe = false ∧ t.pcIe = false ∧ t.wdtIf = false ∧ t.pcIf = false ∧
      t.wdrf = (pinSample s).rstCauseWdt ∧ t.pcLast = (pinSample s).pcint ∧
      t.wdtEn = false ∧ t.wdtIdx = 0 ∧ t.wdtCnt = 0 ∧ t.cmdErr = false) ∧
    outputs s =
      { rfPin := s.pin, cpuHalt := s.halt, analogEn := s.analogEn, reqReady := false, rspRdata := 0 }

/-- 70_reset_and_hazards R223: the state after a reset cycle accepts whatever is presented outside a further reset, and
STATUS and IRQ read as the rule says. -/
def Obligations.AfterResetBlockIsIdleAndReadable : Prop :=
  ∀ s : State, (pinSample s).rst = true →
    ∃ t, step s = .next t ∧ t.mode = .idle ∧ t.gie = false ∧ t.wdtIe = false ∧ t.pcIe = false ∧ t.wdtEn = false ∧
      regRead t 0xF = 0x0040 ∧
      regRead t 0xB = (if (pinSample s).rstCauseWdt then 0x0100 else 0x0000) ∧
      ((pinSample t).rst = false → ∀ r, presented t = some r → accepted t = some r)

/-- 10_state R41 at State.reset, and after a reset cycle from any state at all (70_reset_and_hazards R222 lets a machine
start in one). The two input values of State.reset are the model's choice (log entry 4); neither is used. -/
def Obligations.ResetEstablishesInvariant : Prop :=
  StateInv State.reset ∧ ∀ s : State, (pinSample s).rst = true → ∃ t, step s = .next t ∧ StateInv t

/-! ## Decoding and dispatch -/

/-- 30_encoding R88: the decoder on every word: the ten words 0x0000 to 0x0009, each its command, and no other. -/
def Obligations.DecodeInvertsEncodeOnTenWords : Prop :=
  (∀ (w : Word) (i : Instr), decode w = some i ↔ w = encode i) ∧
  (∀ w : Word, decode w = none ↔ 10 ≤ w.toNat) ∧
  [Instr.nop, .build, .cksum, .sendFrame, .sendSync, .sendZero, .sendOne, .wdtSetup, .sleep, .sleepPin].map
    (fun i => (encode i).toNat) = List.range 10

/-- 30_encoding R87, R89: words written out from the opcode map. -/
def Obligations.SampleWordsDecodeAsListed : Prop :=
  decode 0x0000 = some .nop ∧ decode 0x0001 = some .build ∧ decode 0x0002 = some .cksum ∧
  decode 0x0003 = some .sendFrame ∧ decode 0x0006 = some .sendOne ∧ decode 0x0007 = some .wdtSetup ∧
  decode 0x0009 = some .sleepPin ∧ decode 0x000A = none ∧ decode 0x0011 = none ∧ decode 0xFFFF = none

/-- 30_encoding R90: a request and its 21-bit word determine each other, with the fields where the rule puts them; a request is
well formed exactly when it is a write or its DATA is 0, so the word of a well-formed read is its address alone; and the
rule's two examples. -/
def Obligations.RequestWordsRoundTrip : Prop :=
  (∀ r : Request, decodeRequest (encodeRequest r) = r) ∧
  (∀ q : BitVec 21, encodeRequest (decodeRequest q) = q) ∧
  (∀ r : Request,
    (encodeRequest r).toNat = (if r.we then 2 ^ 20 else 0) + r.addr.toNat * 2 ^ 16 + r.data.toNat) ∧
  (∀ r : Request, r.wellFormed = true ↔ r.we = true ∨ r.data = 0) ∧
  (∀ r : Request, r.wellFormed = true → r.we = false → (encodeRequest r).toNat = r.addr.toNat * 2 ^ 16) ∧
  cmd .build = .request (decodeRequest 0x1A0001) ∧ rd .status = .request (decodeRequest 0x0F0000)

/-- 40_dispatch R101, 10_state R40: in an idle cycle without reset, a command word at the head of the host's actions is
run by `exec`, on the state in which the cycle's inputs are used up and phases 1 to 4 are done. How the request gets
there is the model's own (log entries 2, 3, 6). -/
def Obligations.StepRunsDecodedCommand : Prop :=
  ∀ (s : State) (w : Word) (i : Instr) (rest : List HostAction),
    s.mode = .idle → (pinSample s).rst = false →
    s.host = .request { we := true, addr := 0xA, data := w } :: rest → decode w = some i →
    step s = exec i
      (wakePhases (pinSample s).pcint
        { s with host := rest, pins := s.pins.tail, reqReady := true, rspRdata := 0 })

/-- The command that `withFetchWord` places is the one the next step runs, in every state (the model's own convention,
log entry 11). -/
def Obligations.PlacedTableWordRunsNext : Prop :=
  ∀ (s : State) (w : Nat) (i : Instr), w < 65536 → decodeTableWord 16 w = some i →
    ∃ u, step (s.withFetchWord 16 w) = exec i u ∧
      SameS u (wakePhases (pinSample s).pcint { s with mode := .idle })

/-- 40_dispatch R103, 60_exceptions R191: an illegal word sets CMD_ERR and does nothing else that an idle cycle
without a request does not do, and the flag then stays until reset, whatever the host does. -/
def Obligations.IllegalWordOnlySetsStickyCmdErr : Prop :=
  (∀ (s : State) (w : Word),
    acceptedWrite s = some { we := true, addr := 0xA, data := w } →
    (w.extractLsb' 4 12 ≠ 0 ∨ 0xA ≤ (w.extractLsb' 0 4).toNat) →
    ∃ t u, step s = .next t ∧ step { s with host := [] } = .next u ∧ SameS { u with cmdErr := true } t) ∧
  (∀ s t : State, step s = .next t → (pinSample s).rst = false → s.cmdErr = true → t.cmdErr = true)

/-- 60_exceptions R190, R192: nothing stops the machine: every command completes in every state, and so does every
cycle. -/
def Obligations.EveryCommandAndCycleCompletes : Prop :=
  (∀ (i : Instr) (s : State), ∃ t, exec i s = .next t) ∧ ∀ s : State, ∃ t, step s = .next t

/-! ## The register port -/

/-- 10_state R37, 20_memory R64: the outputs of any cycle; the read data is 0 in a cycle with no accepted read. -/
def Obligations.OutputsOfACycle : Prop :=
  ∀ s : State, (outputs s).rfPin = s.pin ∧ (outputs s).cpuHalt = s.halt ∧ (outputs s).analogEn = s.analogEn ∧
    ((outputs s).reqReady = true ↔ ∃ r, accepted s = some r) ∧
    (∀ r, accepted s = some r → r.we = false → (outputs s).rspRdata = regRead s r.addr) ∧
    ((∀ r, accepted s = some r → r.we = true) → (outputs s).rspRdata = 0)

/-- 20_memory R62: outside a reset cycle a request is accepted exactly when it is a read or the block is idle. -/
def Obligations.AcceptanceRule : Prop :=
  ∀ s : State, (pinSample s).rst = false →
    (reqReadyO s = true ↔ ∃ r, presented s = some r ∧ (r.we = false ∨ s.mode = .idle))

/-- 20_memory R61, 40_dispatch R104: a request that is not accepted has no effect on the record S, and a held write
stays presented. Holding it is what the model's `HostAction.request` stands for (log entry 3). -/
def Obligations.StalledRequestHasNoEffect : Prop :=
  ∀ s : State, reqReadyO s = false →
    ∃ t u, step s = .next t ∧ step { s with host := [] } = .next u ∧ SameS u t ∧
      ∀ r rest, s.host = .request r :: rest → t.host = s.host

/-- 20_memory R64: an accepted read changes nothing of the record S, and it is answered with the value of the register
at the start of the cycle. -/
def Obligations.ReadsHaveNoEffect : Prop :=
  ∀ (s : State) (r : Request), accepted s = some r → r.we = false →
    ∃ t u, step s = .next t ∧ step { s with host := [] } = .next u ∧ SameS u t ∧
      rspRdataO s = regRead s r.addr

/-- 20_memory R64: the value of every register, as a number. -/
def Obligations.RegisterImages : Prop :=
  [Mode.idle, .txSym, .txFrame, .tSleep, .eSleep].map (fun m => m.code.toNat) = [0, 1, 2, 3, 4] ∧
  [Phase.none, .lead, .sync, .pulse, .hold].map (fun p => p.code.toNat) = [0, 1, 2, 3, 4] ∧
  ∀ s : State,
    regRead s 0x0 = s.temp ∧ regRead s 0x1 = s.hum ∧
    (regRead s 0x2).toNat = s.devId.toNat ∧ (regRead s 0x3).toNat = s.chan.toNat ∧
    (regRead s 0x4).toNat = s.battOk.toNat ∧
    (regRead s 0x5).toNat = 256 * s.frame.b0.toNat + s.frame.b1.toNat ∧
    (regRead s 0x6).toNat = 256 * s.frame.b2.toNat + s.frame.b3.toNat ∧
    (regRead s 0x7).toNat = s.frame.b4.toNat ∧ (regRead s 0x8).toNat = s.flen.toNat ∧
    regRead s 0x9 = s.arg ∧ regRead s 0xA = 0 ∧
    (regRead s 0xB).toNat = 256 * s.wdrf.toNat + 32 * s.pcIf.toNat + 16 * s.wdtIf.toNat + 4 * s.pcIe.toNat +
      2 * s.wdtIe.toNat + s.gie.toNat ∧
    (regRead s 0xC).toNat = 16 * s.wdtEn.toNat + s.wdtIdx.toNat ∧
    regRead s 0xD = s.ticks ∧
    (regRead s 0xE).toNat = 4096 * s.phase.code.toNat + 1024 * s.sym.toNat + 256 * s.rep.toNat + s.bitIdx.toNat ∧
    (regRead s 0xF).toNat = 128 * s.cmdErr.toNat + 64 * s.analogEn.toNat + 32 * s.halt.toNat + 16 * s.pol.toNat +
      8 * s.pin.toNat + s.mode.code.toNat

/-- 20_memory R63: what an accepted write does, at every address. -/
def Obligations.WriteRule : Prop :=
  ∀ (s : State) (v : Word),
    regWrite 0x0 v s = .next { s with temp := v } ∧
    regWrite 0x1 v s = .next { s with hum := v } ∧
    regWrite 0x2 v s = .next { s with devId := BitVec.ofNat 6 (v.toNat % 64) } ∧
    regWrite 0x3 v s = .next { s with chan := BitVec.ofNat 2 (v.toNat % 4) } ∧
    regWrite 0x4 v s = .next { s with battOk := decide (v.toNat % 2 = 1) } ∧
    regWrite 0x5 v s = .next { s with frame := { s.frame with
      b0 := BitVec.ofNat 8 (v.toNat / 256), b1 := BitVec.ofNat 8 (v.toNat % 256) } } ∧
    regWrite 0x6 v s = .next { s with frame := { s.frame with
      b2 := BitVec.ofNat 8 (v.toNat / 256), b3 := BitVec.ofNat 8 (v.toNat % 256) } } ∧
    regWrite 0x7 v s = .next { s with frame := { s.frame with b4 := BitVec.ofNat 8 (v.toNat % 256) } } ∧
    regWrite 0x8 v s = .next { s with flen := BitVec.ofNat 6 (min v.toNat 40) } ∧
    regWrite 0x9 v s = .next { s with arg := v } ∧
    regWrite 0xA v s = execute v s ∧
    regWrite 0xB v s = .next { s with
      gie := decide (v.toNat % 2 = 1)
      wdtIe := decide (v.toNat / 2 % 2 = 1)
      pcIe := decide (v.toNat / 4 % 2 = 1) } ∧
    regWrite 0xC v s = .next s ∧ regWrite 0xD v s = .next s ∧
    regWrite 0xE v s = .next s ∧ regWrite 0xF v s = .next s

/-- 10_state R40: outside a reset cycle, an idle block does the accepted write on the state of phases 1 to 4, and only
phases 1 to 4 without one. -/
def Obligations.IdleCycleIsWakePhasesThenWrite : Prop :=
  ∀ s : State, s.mode = .idle → (pinSample s).rst = false →
    ∃ p, SameS (wakePhases (pinSample s).pcint s) p ∧
      (∀ r, acceptedWrite s = some r → step s = regWrite r.addr r.data p) ∧
      (acceptedWrite s = none → step s = .next p)

/-- 20_memory R66 to R73, R75: what a register reads after a write to it. -/
def Obligations.ReadBackAfterWrite : Prop :=
  ∀ (s t : State) (a : RegAddr) (v : Word), regWrite a v s = .next t → a ≠ 0xA →
    regRead t a =
      (if a = 0x0 ∨ a = 0x1 ∨ a = 0x5 ∨ a = 0x6 ∨ a = 0x9 then v
       else if a = 0x2 then v &&& 0x3F
       else if a = 0x3 then v &&& 0x3
       else if a = 0x4 then v &&& 0x1
       else if a = 0x7 then v &&& 0xFF
       else if a = 0x8 then (if v.toNat ≤ 40 then v else 40)
       else if a = 0xB then (regRead s a &&& 0x0130) ||| (v &&& 0x7)
       else regRead s a) ∧
    ∀ b : RegAddr, b ≠ a → regRead t b = regRead s b

/-- 30_encoding R92: SEI and CLI of a host program change GIE and no other enable. That a program can hold SEI and CLI
as actions is the model's own (log entry 3). -/
def Obligations.SeiAndCliChangeOnlyGie : Prop :=
  ∀ (s : State) (rest : List HostAction), s.mode = .idle → (pinSample s).rst = false →
    (s.host = .sei :: rest →
      ∃ t, step s = .next t ∧ t.host = rest ∧ t.gie = true ∧ t.wdtIe = s.wdtIe ∧ t.pcIe = s.pcIe) ∧
    (s.host = .cli :: rest →
      ∃ t, step s = .next t ∧ t.host = rest ∧ t.gie = false ∧ t.wdtIe = s.wdtIe ∧ t.pcIe = s.pcIe)

/-- 30_encoding R92: WAITIDLE goes on reading while the block is busy, changing nothing, and ends in the first idle cycle. That a
program can hold WAITIDLE as an action is the model's own (log entry 3). -/
def Obligations.WaitIdleEndsWhenIdle : Prop :=
  ∀ (s : State) (rest : List HostAction), (pinSample s).rst = false → s.host = .waitIdle :: rest →
    ∃ t u, step s = .next t ∧ step { s with host := [] } = .next u ∧ SameS u t ∧
      rspRdataO s = regRead s 0xF ∧ (s.mode = .idle → t.host = rest) ∧ (s.mode ≠ .idle → t.host = s.host)

/-! ## NOP, BUILD, CKSUM -/

/-- 40_dispatch R102. -/
def Obligations.NopChangesNothing : Prop := ∀ s : State, exec .nop s = .next s

/-- 41_checksum_frame R125 to R131: BUILD completes from every state, writes the frame and FLEN and nothing else, and each byte
is the number the rules give. -/
def Obligations.BuildWritesStatedFrame : Prop :=
  ∀ s : State, ∃ f : Frame,
    exec .build s = .next { s with frame := f, flen := 36 } ∧
    f.b0.toNat = s.devId.toNat / 4 * 16 + s.chan.toNat * 4 + s.devId.toNat % 4 ∧
    f.b1.toNat = (if s.battOk then 0 else 128) + reverseFour (s.temp.toNat % 16) ∧
    (f.b2.toNat : Int) = (if s.temp.toInt < 0 then s.temp.toInt + 4096 else s.temp.toInt) % 4096 / 16 ∧
    f.b3.toNat = (s.hum.toNat + 156) % 256 ∧
    f.b4.toNat = 16 * reverseFour (sumOfNibbles f.b0 f.b1 f.b2 f.b3 % 16)

/-- 41_checksum_frame R132: the five properties the source asks of BUILD. -/
def Obligations.BuildProperties : Prop :=
  ∀ s u t v : State, exec .build s = .next t → exec .build u = .next v →
    t.flen = 36 ∧
    (s.temp = 0xFFFF → u = { s with temp := 0x0FFF } → t.frame = v.frame) ∧
    (t.frame.b0.toNat / 16 * 4 + t.frame.b0.toNat % 4 = s.devId.toNat ∧
      t.frame.b0.toNat / 4 % 4 = s.chan.toNat) ∧
    (t.frame.b1.toNat / 16 % 8 = 0 ∧ t.frame.b4.toNat % 16 = 0) ∧
    (t.frame = v.frame ↔ s.devId = u.devId ∧ s.chan = u.chan ∧ s.battOk = u.battOk ∧
      s.temp.toNat % 4096 = u.temp.toNat % 4096 ∧ s.hum.toNat % 256 = u.hum.toNat % 256)

/-- 41_checksum_frame R123, R121: CKSUM completes from every state and writes `FRAME[4]` and nothing else. -/
def Obligations.CksumWritesStatedByte : Prop :=
  ∀ s : State, ∃ c : Byte,
    exec .cksum s = .next { s with frame := { s.frame with b4 := c } } ∧
    c.toNat = 16 * reverseFour (sumOfNibbles s.frame.b0 s.frame.b1 s.frame.b2 s.frame.b3 % 16)

/-- 41_checksum_frame R123, a corner case: CKSUM after BUILD writes what BUILD wrote. -/
def Obligations.CksumAfterBuildIsIdentity : Prop :=
  ∀ s t : State, exec .build s = .next t → exec .cksum t = .next t

/-- 41_checksum_frame R122 items 2, 3 and 5: the checksum is the reversed nibble sum, does not depend on the order of the
nibbles, and can be checked by reversing it. -/
def Obligations.ChecksumLaws : Prop :=
  (∀ b0 b1 b2 b3 : Byte, (checksum32 b0 b1 b2 b3).toNat = reverseFour (sumOfNibbles b0 b1 b2 b3 % 16)) ∧
  (∀ b0 b1 b2 b3 c0 c1 c2 c3 : Byte, (nibblesOf b0 b1 b2 b3).Perm (nibblesOf c0 c1 c2 c3) →
    checksum32 b0 b1 b2 b3 = checksum32 c0 c1 c2 c3) ∧
  (∀ b0 b1 b2 b3 : Byte, (rev4 (checksum32 b0 b1 b2 b3)).toNat = sumOfNibbles b0 b1 b2 b3 % 16) ∧
  (checksum32 0x10 0 0 0).toNat = 8

/-! ## The transmitter -/

/-- 42_transmitter R141, 41_checksum_frame R124: frame bit `k` is bit `7 - k mod 8` of byte `k / 8`, so the stream is the bytes
in order, most significant bit first. -/
def Obligations.FrameBitsAreMsbFirst : Prop :=
  ∀ (f : Frame) (k : Nat), k < 40 →
    some (frameBit f k) = ([f.b0, f.b1, f.b2, f.b3, f.b4][k / 8]?).map (fun b => b.getLsbD (7 - k % 8)) ∧
    frameBit f k = (f.b0 ++ f.b1 ++ f.b2 ++ f.b3 ++ f.b4).getMsbD k

/-- 42_transmitter R150: SEND_FRAME starts from every state, with the pin and the polarity low and the lead of one cycle. -/
def Obligations.SendFrameStartsLead : Prop :=
  ∀ s : State, exec .sendFrame s = .next { s with
    mode := .txFrame, pin := false, pol := false, phase := .lead, cnt := 1, rep := 0, bitIdx := 0 }

/-- 42_transmitter R151, R143: SEND_SYNC starts from every state; the segment count holds T_SYNC whole. -/
def Obligations.SendSyncStartsSync : Prop :=
  ∀ s : State, ∃ c : BitVec 16, c.toNat = s.params.tSync ∧
    exec .sendSync s = .next { s with
      mode := .txSym, rep := 0, bitIdx := 0, pin := !s.pol, pol := !s.pol, phase := .sync, cnt := c }

/-- 42_transmitter R152, R153, R144: SEND_ZERO and SEND_ONE start from every state; the segment count holds T_DUMMY whole. -/
def Obligations.SendBitStartsPulse : Prop :=
  ∀ s : State, ∃ c : BitVec 16, c.toNat = s.params.tDummy ∧
    exec .sendZero s = .next { s with
      mode := .txSym, rep := 0, bitIdx := 0, pin := !s.pol, phase := .pulse, cnt := c, sym := false } ∧
    exec .sendOne s = .next { s with
      mode := .txSym, rep := 0, bitIdx := 0, pin := !s.pol, phase := .pulse, cnt := c, sym := true }

/-- 42_transmitter R145 to R149: what a cycle of a running transmission does to the record S, case by case, beside phases
1 to 4. -/
def Obligations.TransmitterStep : Prop :=
  ∀ s : State, s.mode.isTx → (pinSample s).rst = false →
    ∃ p t, SameS (wakePhases (pinSample s).pcint s) p ∧ p.params = s.params ∧ step s = .next t ∧
      (1 < s.cnt.toNat → t = { p with cnt := s.cnt - 1 }) ∧
      (s.cnt = 1 → s.phase = .lead → t = { p with
        pin := !s.pol, pol := !s.pol, phase := .sync, cnt := BitVec.ofNat 16 s.params.tSync }) ∧
      (s.cnt = 1 → s.phase = .pulse → t = { p with
        pin := s.pol, phase := .hold,
        cnt := BitVec.ofNat 16 (if s.sym then s.params.tOne else s.params.tZero) }) ∧
      (s.cnt = 1 → s.phase = .sync ∨ s.phase = .hold → s.mode = .txSym → t = { p with
        mode := .idle, phase := .none, cnt := 0 }) ∧
      (s.cnt = 1 → s.mode = .txFrame → ∀ nxt : Nat,
        (s.phase = .sync ∧ nxt = 0) ∨ (s.phase = .hold ∧ nxt = s.bitIdx.toNat + 1) →
        (nxt < s.flen.toNat → t = { p with
          bitIdx := BitVec.ofNat 6 nxt, pin := !s.pol, phase := .pulse,
          cnt := BitVec.ofNat 16 s.params.tDummy, sym := frameBit s.frame nxt }) ∧
        (s.flen.toNat ≤ nxt → s.rep.toNat + 1 < 3 → t = { p with
          rep := s.rep + 1, bitIdx := 0, pin := !s.pol, pol := !s.pol, phase := .sync,
          cnt := BitVec.ofNat 16 s.params.tSync }) ∧
        (s.flen.toNat ≤ nxt → 3 ≤ s.rep.toNat + 1 → t = { p with
          pin := false, pol := false, mode := .idle, phase := .none, cnt := 0 }))

/-- 42_transmitter R142, R156: while a transmission runs, the host's requests, the interrupts, the watchdog and the pin input
change no transmitter field: two states that agree on the transmission step to two that agree on it. -/
def Obligations.TransmissionIsUndisturbed : Prop :=
  ∀ s u t v : State, s.mode.isTx → SameTransmission s u →
    (pinSample s).rst = false → (pinSample u).rst = false → step s = .next t → step u = .next v →
    SameTransmission t v

/-- 42_transmitter R151, R154, R155: a SEND_SYNC accepted in cycle `a` drives the inverted polarity and is busy in exactly the
T_SYNC cycles after `a`; then the block is idle with pin and polarity inverted. -/
def Obligations.SendSyncLastsTSync : Prop :=
  ∀ (s : State) (rest : List HostAction), s.mode = .idle → s.host = cmd .sendSync :: rest →
    NoReset (s.params.tSync + 1) s →
    ∀ k ≤ s.params.tSync, ∃ t, runCycles (k + 1) s = .next t ∧ t.pin = !s.pol ∧ t.pol = !s.pol ∧
      t.mode = (if k < s.params.tSync then .txSym else .idle)

/-- 42_transmitter R152 to R155: a SEND_ZERO or SEND_ONE accepted in cycle `a` drives the inverted polarity for T_DUMMY cycles
and the polarity for T_ZERO or T_ONE cycles, and then leaves the block idle with the pin at the polarity it began with. -/
def Obligations.SendBitLastsDummyPlusHold : Prop :=
  ∀ (s : State) (b : Bool) (rest : List HostAction), s.mode = .idle →
    s.host = cmd (if b then .sendOne else .sendZero) :: rest →
    NoReset (s.params.tDummy + (if b then s.params.tOne else s.params.tZero) + 1) s →
    ∀ k ≤ s.params.tDummy + (if b then s.params.tOne else s.params.tZero), ∃ t,
      runCycles (k + 1) s = .next t ∧ t.pol = s.pol ∧
      t.pin = (if k < s.params.tDummy then !s.pol else s.pol) ∧
      t.mode =
        (if k < s.params.tDummy + (if b then s.params.tOne else s.params.tZero) then .txSym else .idle)

/-- 42_transmitter R154, R149: a SEND_FRAME accepted in cycle `a` drives, cycle by cycle, the lead and three repeats of sync and
FLEN data bits; it is busy in exactly the cycles of the rule's formula, and then idle with pin and polarity low. -/
def Obligations.SendFrameDrivesStatedWaveform : Prop :=
  ∀ (s : State) (rest : List HostAction), s.mode = .idle → s.host = cmd .sendFrame :: rest →
    NoReset (frameBusy s.params s.frame s.flen.toNat + 1) s →
    (frameWave s.params s.frame s.flen.toNat).length = frameBusy s.params s.frame s.flen.toNat ∧
    (∀ k < frameBusy s.params s.frame s.flen.toNat, ∃ t, runCycles (k + 1) s = .next t ∧ t.mode = .txFrame ∧
      (frameWave s.params s.frame s.flen.toNat)[k]? = some t.pin) ∧
    ∃ t, runCycles (frameBusy s.params s.frame s.flen.toNat + 1) s = .next t ∧ t.mode = .idle ∧
      t.pin = false ∧ t.pol = false ∧ t.rep = 2 ∧ t.bitIdx.toNat = max s.flen.toNat 1 - 1

/-! ## The scheduler -/

/-- 43_scheduler R171: WDT_SETUP completes from every state, clamping the index. -/
def Obligations.WdtSetupConfigures : Prop :=
  ∀ s : State, ∃ i : BitVec 4, i.toNat = min s.arg.toNat 9 ∧
    exec .wdtSetup s = .next { s with wdtIdx := i, wdtEn := true, wdtIe := true, wdrf := false, wdtCnt := 0 }

/-- 43_scheduler R171, a corner case: a tick that the old configuration generates in the accepting cycle still sets WDT_IF,
while the count restarts at 0. -/
def Obligations.WdtSetupKeepsSameCycleTick : Prop :=
  ∀ s : State, acceptedWrite s = some { we := true, addr := 0xA, data := 0x7 } → wdtTick s = true →
    ∃ t, step s = .next t ∧ t.wdtIf = true ∧ t.wdtCnt = 0

/-- 43_scheduler R174: SLEEP completes from every state, for ARG = 0 and for ARG != 0. -/
def Obligations.SleepStartsUnlessZero : Prop :=
  ∀ s : State,
    (s.arg = 0 → exec .sleep s = .next { s with ticks := 0 }) ∧
    (s.arg ≠ 0 → exec .sleep s = .next { s with ticks := 0, mode := .tSleep, analogEn := false, halt := true })

/-- 43_scheduler R179: SLEEP_PIN completes from every state. -/
def Obligations.SleepPinArmsPinChange : Prop :=
  ∀ s : State, exec .sleepPin s = .next { s with
    savedWie := s.wdtIe, wdtIe := false, pcIf := false, pcIe := true, gie := true, halt := true, mode := .eSleep }

/-- 43_scheduler R180: a pin change detected in the accepting cycle of SLEEP_PIN, or pending before it, is lost. -/
def Obligations.SleepPinLosesSameCycleEdge : Prop :=
  ∀ s : State, acceptedWrite s = some { we := true, addr := 0xA, data := 0x9 } →
    ∃ t, step s = .next t ∧ t.mode = .eSleep ∧ t.pcIf = false ∧ t.pcLast = (pinSample s).pcint

/-- 43_scheduler R176: what a cycle of a timed sleep does to the record S, beside phases 1 to 4; `wake` is a pending, enabled
interrupt of the start of the cycle. -/
def Obligations.TimedSleepStep : Prop :=
  ∀ s : State, s.mode = .tSleep → (pinSample s).rst = false →
    ∃ p t, SameS (wakePhases (pinSample s).pcint s) p ∧ step s = .next t ∧
      (s.halt = false → t = { p with halt := true }) ∧
      (s.halt = true → ¬ (s.gie = true ∧ (s.wdtIe = true ∧ s.wdtIf = true ∨ s.pcIe = true ∧ s.pcIf = true)) → t = p) ∧
      (s.halt = true → s.gie = true → s.wdtIe = true ∧ s.wdtIf = true ∨ s.pcIe = true ∧ s.pcIf = true →
        (s.ticks.toNat + 1 < s.arg.toNat → t = { p with ticks := s.ticks + 1, halt := false }) ∧
        (s.arg.toNat ≤ s.ticks.toNat + 1 →
          t = { p with ticks := s.ticks + 1, halt := false, mode := .idle, analogEn := true }))

/-- 43_scheduler R175: in a timed sleep the wakes counted and the halt period running add up to the halt entries: the sum
grows by one exactly when a cycle enters the halt, so a sleep that ends with TICKS = N has entered it N times. -/
def Obligations.HaltEntriesAreCounted : Prop :=
  ∀ s t : State, StateInv s → s.mode = .tSleep → (pinSample s).rst = false → step s = .next t →
    t.ticks.toNat + t.halt.toNat =
      s.ticks.toNat + s.halt.toNat + (if s.halt = false ∧ t.halt = true then 1 else 0)

/-- 43_scheduler R177: a timed sleep of N = ARG ticks with only the watchdog able to wake it, seen from its first busy cycle
on: exactly how many cycles it is busy, by the watchdog's phase, and the state it ends in. -/
def Obligations.TimedSleepLastsStatedCycles : Prop :=
  ∀ (s : State) (busy : Nat),
    s.mode = .tSleep → s.halt = true → s.analogEn = false → s.ticks = 0 → 1 ≤ s.arg.toNat →
    s.gie = true → s.wdtIe = true → s.pcIe = false → s.wdtEn = true → s.wdtIdx.toNat ≤ 9 →
    s.wdtCnt.toNat < period s.params s.wdtIdx → (s.wdtIf = true → s.wdtCnt = 0) →
    busy = (s.arg.toNat - 1) * period s.params s.wdtIdx +
      (if s.wdtIf then 1 else period s.params s.wdtIdx - s.wdtCnt.toNat + 1) →
    NoReset busy s →
    (∀ k < busy, ∃ t, runCycles k s = .next t ∧ t.mode = .tSleep ∧ t.analogEn = false) ∧
    ∃ t, runCycles busy s = .next t ∧ t.mode = .idle ∧ t.halt = false ∧ t.analogEn = true ∧ t.ticks = s.arg

/-- 43_scheduler R178, 70_reset_and_hazards R235: a timed sleep, in a halt period or in a wake window, that nothing can wake
never ends: after any number of cycles without reset it is as it was, halted, and the run it is in has no end. -/
def Obligations.UnwakeableSleepHangs : Prop :=
  ∀ (s : State) (n : Nat), s.mode = .tSleep → NoReset n s → Unwakeable n s →
    (∃ t, runCycles n s = .next t ∧ t.mode = .tSleep ∧ (s.halt = true ∨ 1 ≤ n → t.halt = true) ∧
      t.analogEn = s.analogEn ∧ t.ticks = s.ticks) ∧
    endWithin n s = none

/-- 43_scheduler R181: what a cycle of an event sleep does to the record S, beside phases 1 to 4, with and without a pin-change
delivery. -/
def Obligations.EventSleepStep : Prop :=
  ∀ s : State, s.mode = .eSleep → (pinSample s).rst = false →
    ∃ p t, SameS (wakePhases (pinSample s).pcint s) p ∧ step s = .next t ∧
      (¬ (s.gie = true ∧ s.pcIe = true ∧ s.pcIf = true) → t = p) ∧
      (s.gie = true → s.pcIe = true → s.pcIf = true → t = { p with
        halt := false, pcIe := false, wdtIe := s.savedWie, gie := true, mode := .idle })

/-- 43_scheduler R181, R182, 93_implementation_defined I9: an event sleep with a pin change pending ends in this cycle; one with
none pending lasts while `pcint_i` is steady, with no end of the run, ends at the end of the cycle after the one that sees a
change, and is ended by a reset. A cycle in which it ends leaves the enables as R181 says; a reset cycle is that of R220. -/
def Obligations.EventSleepEndsAfterPinChange : Prop :=
  ∀ s : State, InEventSleep s →
    (s.pcIf = true → (pinSample s).rst = false → ∃ t, step s = .next t ∧ AfterEventSleep s t) ∧
    (s.pcIf = false →
      (∀ n, SteadyPin n s →
        (∃ t, runCycles n s = .next t ∧ InEventSleep t ∧ t.pcIf = false ∧ t.analogEn = s.analogEn ∧
          t.savedWie = s.savedWie) ∧
        endWithin n s = none) ∧
      (∀ (quiet rest : List PinSample) (e x : PinSample), s.pins = quiet ++ e :: x :: rest →
        (∀ p ∈ quiet, p.rst = false ∧ p.pcint = s.pcLast) →
        e.rst = false → e.pcint = !s.pcLast → x.rst = false →
        (∀ k ≤ quiet.length + 1, ∃ t, runCycles k s = .next t ∧ t.mode = .eSleep ∧ t.halt = true) ∧
        ∃ t, runCycles (quiet.length + 2) s = .next t ∧ AfterEventSleep s t) ∧
      (∀ (quiet rest : List PinSample) (e : PinSample), s.pins = quiet ++ e :: rest →
        (∀ p ∈ quiet, p.rst = false ∧ p.pcint = s.pcLast) → e.rst = true →
        ∃ t, runCycles (quiet.length + 1) s = .next t ∧ t.mode = .idle ∧ t.halt = false ∧ t.gie = false ∧
          t.pcIe = false ∧ t.wdtIe = false))

/-! ## Wake interrupts and the watchdog -/

/-- 60_exceptions R196, R197, R198, R180: the pin sample and the pending flags after any cycle without reset. -/
def Obligations.PendingFlagsRule : Prop :=
  ∀ s t : State, (pinSample s).rst = false → step s = .next t →
    t.pcLast = (pinSample s).pcint ∧
    t.wdtIf = (wdtTick s || (s.wdtIf && !(s.gie && s.wdtIe && s.wdtIf))) ∧
    t.pcIf = (if acceptedWrite s = some { we := true, addr := 0xA, data := 0x9 } then false
      else ((pinSample s).pcint != s.pcLast) || (s.pcIf && !(s.gie && s.pcIe && s.pcIf)))

/-- 60_exceptions R201, R200: the tick and the watchdog counter of any cycle without reset. -/
def Obligations.WatchdogCounterRule : Prop :=
  ∀ s t : State, (pinSample s).rst = false → step s = .next t →
    (wdtTick s = true ↔ s.wdtEn = true ∧ s.wdtCnt.toNat + 1 = s.params.wdtBase * 2 ^ s.wdtIdx.toNat) ∧
    t.wdtCnt = (if acceptedWrite s = some { we := true, addr := 0xA, data := 0x7 } then 0
      else if s.wdtEn then (if wdtTick s then 0 else s.wdtCnt + 1) else s.wdtCnt)

/-- 60_exceptions R200: the periods, and that the counter never overflows. -/
def Obligations.PeriodDoublesAndFits : Prop :=
  ∀ (p : Config.Params) (i : BitVec 4), i.toNat ≤ 9 →
    period p i = p.wdtBase * 2 ^ i.toNat ∧ 2 ≤ period p i ∧ period p i ≤ 2 ^ 24

/-- 60_exceptions R201: the watchdog counts modulo its period in every mode and whatever the host does, so that it ticks once in
each period: as long as no WDT_SETUP is accepted and no reset comes, the count after `k` cycles is the first one plus `k`
modulo the period, and the next cycle ticks when that is the last of the period. -/
def Obligations.WatchdogIsPeriodic : Prop :=
  ∀ (s : State) (k : Nat), NoReset k s → s.wdtEn = true → s.wdtIdx.toNat ≤ 9 →
    s.wdtCnt.toNat < period s.params s.wdtIdx →
    (∀ j < k, ∀ u, runCycles j s = .next u →
      acceptedWrite u ≠ some { we := true, addr := 0xA, data := 0x7 }) →
    ∃ t, runCycles k s = .next t ∧ t.wdtEn = true ∧ t.wdtIdx = s.wdtIdx ∧
      t.wdtCnt.toNat = (s.wdtCnt.toNat + k) % period s.params s.wdtIdx ∧
      (wdtTick t = true ↔ (s.wdtCnt.toNat + k + 1) % period s.params s.wdtIdx = 0)

/-- 60_exceptions R194, R199: outside a sleep the pending flags decide nothing but the pending flags, and so a delivery does
nothing but clear them. -/
def Obligations.DeliveryOutsideSleepOnlyClearsFlags : Prop :=
  ∀ (s t u : State) (x y : Bool), s.mode ≠ .tSleep → s.mode ≠ .eSleep →
    step s = .next t → step { s with wdtIf := x, pcIf := y } = .next u →
    SameS { t with wdtIf := u.wdtIf, pcIf := u.pcIf } u

/-! ## Rules about the whole machine -/

/-- 43_scheduler R173, 20_memory R76: outside reset only an accepted WDT_SETUP changes the prescale index or the enable of the
watchdog, and nothing stops a running one. -/
def Obligations.OnlyWdtSetupConfiguresWatchdog : Prop :=
  ∀ s t : State, (pinSample s).rst = false → step s = .next t →
    (s.wdtEn = true → t.wdtEn = true) ∧
    (t.wdtEn ≠ s.wdtEn ∨ t.wdtIdx ≠ s.wdtIdx →
      acceptedWrite s = some { we := true, addr := 0xA, data := 0x7 })

/-- 10_state R30, R31: outside reset only a running transmission or an accepted transmit command changes the pin or the
tracked polarity. -/
def Obligations.OnlyTransmitterMovesPin : Prop :=
  ∀ s t : State, (pinSample s).rst = false → step s = .next t → t.pin ≠ s.pin ∨ t.pol ≠ s.pol →
    s.mode.isTx ∨ ∃ w : Word, acceptedWrite s = some { we := true, addr := 0xA, data := w } ∧
      3 ≤ w.toNat ∧ w.toNat ≤ 6

/-- 70_reset_and_hazards R230, 40_dispatch R104: operations do not overlap or follow each other without an idle cycle: a busy cycle
is followed by one of the same operation or by an idle one. -/
def Obligations.OperationsDoNotOverlap : Prop :=
  ∀ s t : State, step s = .next t → s.mode ≠ .idle → t.mode = s.mode ∨ t.mode = .idle

/-- 20_memory R62: while the block is busy no cycle without reset changes the readings, FLEN, the frame, ARG, the reset cause
or the error flag. -/
def Obligations.BusyBlockKeepsItsOperands : Prop :=
  ∀ s t : State, (pinSample s).rst = false → step s = .next t → s.mode ≠ .idle →
    t.temp = s.temp ∧ t.hum = s.hum ∧ t.devId = s.devId ∧ t.chan = s.chan ∧ t.battOk = s.battOk ∧
    t.frame = s.frame ∧ t.flen = s.flen ∧ t.arg = s.arg ∧ t.wdrf = s.wdrf ∧ t.cmdErr = s.cmdErr

/-- 60_exceptions R206: the two power outputs in each power state of a state that meets the invariant. -/
def Obligations.PowerStates : Prop :=
  ∀ s : State, StateInv s →
    (analogEnO s = false ↔ s.mode = .tSleep) ∧
    (s.mode = .idle ∨ s.mode.isTx → cpuHaltO s = false ∧ analogEnO s = true) ∧
    (s.mode = .eSleep → cpuHaltO s = true ∧ analogEnO s = true)

/-- The parameters of the implementation are fixed: no command, write or cycle, a reset one too, changes them. That they stand
in the state is the model's own (log entry 1). -/
def Obligations.ParametersNeverChange : Prop :=
  ∀ s t : State, step s = .next t → t.params = s.params

/-- 10_state R41, kept by every step from every state that meets it, with what R32, R33 and 42_transmitter R155 say of
reached states beside it. -/
def Obligations.StepKeepsInvariant : Prop :=
  ∀ s t : State, StateInv s → step s = .next t → StateInv t

/-- 10_state R41: the invariants hold in every state reached from a reset cycle, for every sequence of inputs and every choice
of the parameters: the state the reset cycle starts from, its host actions and its pin samples are arbitrary. -/
def Obligations.ReachedStatesMeetR41 : Prop :=
  ∀ (s t : State) (n : Nat), (pinSample s).rst = true → runCycles (n + 1) s = .next t → SpecInv t

/-- 70_reset_and_hazards R235: a run ends in the first cycle in which every request of the program has been accepted and the block
is idle, if there is one, and its end is that cycle, the state in it and the outputs of it; a run has at most one end, and
what a cycle does depends on the record S, the parameters and the inputs alone. That a run which withdraws a request before
it is accepted has no end is the model's reading (log entry 19). -/
def Obligations.RunEndsInFirstIdleCycleWithAllAccepted : Prop :=
  (∀ (s : State) (e : RunEnd), RunEnds s e ↔
    runCycles e.cycle s = .next e.state ∧ e.outputs = outputs e.state ∧
    e.state.mode = .idle ∧ (∀ a ∈ e.state.host, a = .idle) ∧
    ∀ k < e.cycle, ∃ u, runCycles k s = .next u ∧ ¬ (u.mode = .idle ∧ ∀ a ∈ u.host, a = .idle) ∧
      ∀ r rest, u.host = .offer r :: rest → reqReadyO u = true) ∧
  (∀ (s : State) (e f : RunEnd), RunEnds s e → RunEnds s f → e = f) ∧
  (∀ s t : State, SameS s t → s.params = t.params → s.host = t.host → s.pins = t.pins →
    step s = step t ∧ outputs s = outputs t)
end

