-- ==== Sys2Proof/Laws/Operands.lean ====
section
/-! SUPPORT. What the operand forms say: the register map, the reversal, segment lengths and periods. -/

namespace Sys2Proof.Machine

/-- Every address names one register (20_memory R65). -/
@[simp] theorem Reg.ofAddr_addr (r : Reg) : Reg.ofAddr r.addr = r := by cases r <;> rfl

/-- The register at an address has that address (20_memory R65). -/
@[simp] theorem Reg.addr_ofAddr : ∀ a : RegAddr, (Reg.ofAddr a).addr = a := by decide

/-- Only address 0xA is CMD (20_memory R65). -/
theorem Reg.ofAddr_eq_cmd_iff : ∀ a : RegAddr, Reg.ofAddr a = .cmd ↔ a = 0xA := by decide

/-- The reversal undoes itself (41_checksum_frame R122 item 5). -/
@[simp] theorem rev4_rev4 : ∀ x : Nibble, rev4 (rev4 x) = x := by decide

/-- A length below 2^16 is held whole by `CNT`. -/
theorem cycles_toNat {d : Nat} (h : d < 65536) : (cycles d).toNat = d := by
  simp only [cycles, BitVec.toNat_ofNat]
  omega

@[simp] theorem cycles_tSync (p : Config.Params) : (cycles p.tSync).toNat = p.tSync :=
  cycles_toNat p.tSync_lt

@[simp] theorem cycles_tDummy (p : Config.Params) : (cycles p.tDummy).toNat = p.tDummy :=
  cycles_toNat p.tDummy_lt

/-- A data bit's second level is at least one cycle and fits `CNT` (00_scope R6). -/
theorem holdCycles_bounds (p : Config.Params) (b : Bool) : 1 ≤ holdCycles p b ∧ holdCycles p b < 65536 := by
  have h1 := p.one_le_tZero
  have h2 := p.tZero_lt_tOne
  have h3 := p.tOne_lt_tSync
  have h4 := p.tSync_lt
  cases b <;> simp only [holdCycles, Bool.false_eq_true, if_true, if_false] <;> omega

@[simp] theorem cycles_holdCycles (p : Config.Params) (b : Bool) :
    (cycles (holdCycles p b)).toNat = holdCycles p b :=
  cycles_toNat (holdCycles_bounds p b).2

/-- `Period(i)` as a product (60_exceptions R200). -/
theorem period_eq_mul (p : Config.Params) (i : BitVec 4) : period p i = p.wdtBase * 2 ^ i.toNat :=
  Nat.shiftLeft_eq _ _

/-- A period is at least two cycles (00_scope R6). -/
theorem two_le_period (p : Config.Params) (i : BitVec 4) : 2 ≤ period p i := by
  rw [period_eq_mul]
  exact Nat.le_trans p.two_le_wdtBase (Nat.le_mul_of_pos_right _ (Nat.two_pow_pos _))

/-- The clamped frame length (20_memory R72). -/
@[simp] theorem clampFlen_toNat (v : Word) : (clampFlen v).toNat = min v.toNat 40 := by
  simp only [clampFlen, Config.flenMax, BitVec.toNat_ofNat]
  omega

/-- The clamped prescale index (43_scheduler R171). -/
@[simp] theorem clampWdtIdx_toNat (v : Word) : (clampWdtIdx v).toNat = min v.toNat 9 := by
  simp only [clampWdtIdx, Config.wdtIdxMax, BitVec.toNat_ofNat]
  omega

end Sys2Proof.Machine
end

