-- ==== Sys2Proof/Laws/State.lean ====
section
/-!
SUPPORT. What each named update of the state does to each field, so that no proof unfolds one: a lemma per field,
true by rfl.
-/

namespace Sys2Proof.Machine

variable (s : State)

/-! ### `takePort`: The port: what is used up and kept (20_memory R61, R62, R64). -/

@[simp] theorem takePort_temp : (takePort s).temp = s.temp := rfl
@[simp] theorem takePort_hum : (takePort s).hum = s.hum := rfl
@[simp] theorem takePort_devId : (takePort s).devId = s.devId := rfl
@[simp] theorem takePort_chan : (takePort s).chan = s.chan := rfl
@[simp] theorem takePort_battOk : (takePort s).battOk = s.battOk := rfl
@[simp] theorem takePort_frame : (takePort s).frame = s.frame := rfl
@[simp] theorem takePort_flen : (takePort s).flen = s.flen := rfl
@[simp] theorem takePort_arg : (takePort s).arg = s.arg := rfl
@[simp] theorem takePort_mode : (takePort s).mode = s.mode := rfl
@[simp] theorem takePort_pin : (takePort s).pin = s.pin := rfl
@[simp] theorem takePort_pol : (takePort s).pol = s.pol := rfl
@[simp] theorem takePort_phase : (takePort s).phase = s.phase := rfl
@[simp] theorem takePort_cnt : (takePort s).cnt = s.cnt := rfl
@[simp] theorem takePort_rep : (takePort s).rep = s.rep := rfl
@[simp] theorem takePort_bitIdx : (takePort s).bitIdx = s.bitIdx := rfl
@[simp] theorem takePort_sym : (takePort s).sym = s.sym := rfl
@[simp] theorem takePort_halt : (takePort s).halt = s.halt := rfl
@[simp] theorem takePort_analogEn : (takePort s).analogEn = s.analogEn := rfl
@[simp] theorem takePort_ticks : (takePort s).ticks = s.ticks := rfl
@[simp] theorem takePort_savedWie : (takePort s).savedWie = s.savedWie := rfl
@[simp] theorem takePort_gie : (takePort s).gie = s.gie := rfl
@[simp] theorem takePort_wdtIe : (takePort s).wdtIe = s.wdtIe := rfl
@[simp] theorem takePort_pcIe : (takePort s).pcIe = s.pcIe := rfl
@[simp] theorem takePort_wdtIf : (takePort s).wdtIf = s.wdtIf := rfl
@[simp] theorem takePort_pcIf : (takePort s).pcIf = s.pcIf := rfl
@[simp] theorem takePort_wdrf : (takePort s).wdrf = s.wdrf := rfl
@[simp] theorem takePort_pcLast : (takePort s).pcLast = s.pcLast := rfl
@[simp] theorem takePort_wdtEn : (takePort s).wdtEn = s.wdtEn := rfl
@[simp] theorem takePort_wdtIdx : (takePort s).wdtIdx = s.wdtIdx := rfl
@[simp] theorem takePort_wdtCnt : (takePort s).wdtCnt = s.wdtCnt := rfl
@[simp] theorem takePort_cmdErr : (takePort s).cmdErr = s.cmdErr := rfl
@[simp] theorem takePort_params : (takePort s).params = s.params := rfl
@[simp] theorem takePort_host : (takePort s).host = hostAfter s := rfl
@[simp] theorem takePort_pins : (takePort s).pins = s.pins.tail := rfl
@[simp] theorem takePort_reqReady : (takePort s).reqReady = reqReadyO s := rfl
@[simp] theorem takePort_rspRdata : (takePort s).rspRdata = rspRdataO s := rfl

/-! ### `wakePhases`: Phases 1 to 4 of a cycle (10_state R40): no operand of a command or an engine is among the fields they write (log entry 6). -/

@[simp] theorem wakePhases_temp (v : Bool) : (wakePhases v s).temp = s.temp := rfl
@[simp] theorem wakePhases_hum (v : Bool) : (wakePhases v s).hum = s.hum := rfl
@[simp] theorem wakePhases_devId (v : Bool) : (wakePhases v s).devId = s.devId := rfl
@[simp] theorem wakePhases_chan (v : Bool) : (wakePhases v s).chan = s.chan := rfl
@[simp] theorem wakePhases_battOk (v : Bool) : (wakePhases v s).battOk = s.battOk := rfl
@[simp] theorem wakePhases_frame (v : Bool) : (wakePhases v s).frame = s.frame := rfl
@[simp] theorem wakePhases_flen (v : Bool) : (wakePhases v s).flen = s.flen := rfl
@[simp] theorem wakePhases_arg (v : Bool) : (wakePhases v s).arg = s.arg := rfl
@[simp] theorem wakePhases_mode (v : Bool) : (wakePhases v s).mode = s.mode := rfl
@[simp] theorem wakePhases_pin (v : Bool) : (wakePhases v s).pin = s.pin := rfl
@[simp] theorem wakePhases_pol (v : Bool) : (wakePhases v s).pol = s.pol := rfl
@[simp] theorem wakePhases_phase (v : Bool) : (wakePhases v s).phase = s.phase := rfl
@[simp] theorem wakePhases_cnt (v : Bool) : (wakePhases v s).cnt = s.cnt := rfl
@[simp] theorem wakePhases_rep (v : Bool) : (wakePhases v s).rep = s.rep := rfl
@[simp] theorem wakePhases_bitIdx (v : Bool) : (wakePhases v s).bitIdx = s.bitIdx := rfl
@[simp] theorem wakePhases_sym (v : Bool) : (wakePhases v s).sym = s.sym := rfl
@[simp] theorem wakePhases_halt (v : Bool) : (wakePhases v s).halt = s.halt := rfl
@[simp] theorem wakePhases_analogEn (v : Bool) : (wakePhases v s).analogEn = s.analogEn := rfl
@[simp] theorem wakePhases_ticks (v : Bool) : (wakePhases v s).ticks = s.ticks := rfl
@[simp] theorem wakePhases_savedWie (v : Bool) : (wakePhases v s).savedWie = s.savedWie := rfl
@[simp] theorem wakePhases_gie (v : Bool) : (wakePhases v s).gie = s.gie := rfl
@[simp] theorem wakePhases_wdtIe (v : Bool) : (wakePhases v s).wdtIe = s.wdtIe := rfl
@[simp] theorem wakePhases_pcIe (v : Bool) : (wakePhases v s).pcIe = s.pcIe := rfl
@[simp] theorem wakePhases_wdtIf (v : Bool) : (wakePhases v s).wdtIf = (wdtTick s || (s.wdtIf && !deliverWdt s)) := rfl
@[simp] theorem wakePhases_pcIf (v : Bool) : (wakePhases v s).pcIf = (pcEdge s v || (s.pcIf && !deliverPc s)) := rfl
@[simp] theorem wakePhases_wdrf (v : Bool) : (wakePhases v s).wdrf = s.wdrf := rfl
@[simp] theorem wakePhases_pcLast (v : Bool) : (wakePhases v s).pcLast = v := rfl
@[simp] theorem wakePhases_wdtEn (v : Bool) : (wakePhases v s).wdtEn = s.wdtEn := rfl
@[simp] theorem wakePhases_wdtIdx (v : Bool) : (wakePhases v s).wdtIdx = s.wdtIdx := rfl
@[simp] theorem wakePhases_wdtCnt (v : Bool) : (wakePhases v s).wdtCnt = wdtCntAfter s := rfl
@[simp] theorem wakePhases_cmdErr (v : Bool) : (wakePhases v s).cmdErr = s.cmdErr := rfl
@[simp] theorem wakePhases_params (v : Bool) : (wakePhases v s).params = s.params := rfl
@[simp] theorem wakePhases_host (v : Bool) : (wakePhases v s).host = s.host := rfl
@[simp] theorem wakePhases_pins (v : Bool) : (wakePhases v s).pins = s.pins := rfl
@[simp] theorem wakePhases_reqReady (v : Bool) : (wakePhases v s).reqReady = s.reqReady := rfl
@[simp] theorem wakePhases_rspRdata (v : Bool) : (wakePhases v s).rspRdata = s.rspRdata := rfl

/-! ### `applyReset`: Reset (70_reset_and_hazards R220). -/

@[simp] theorem applyReset_temp (c v : Bool) : (applyReset c v s).temp = 0 := rfl
@[simp] theorem applyReset_hum (c v : Bool) : (applyReset c v s).hum = 0 := rfl
@[simp] theorem applyReset_devId (c v : Bool) : (applyReset c v s).devId = 0 := rfl
@[simp] theorem applyReset_chan (c v : Bool) : (applyReset c v s).chan = 0 := rfl
@[simp] theorem applyReset_battOk (c v : Bool) : (applyReset c v s).battOk = false := rfl
@[simp] theorem applyReset_frame (c v : Bool) : (applyReset c v s).frame = ⟨0, 0, 0, 0, 0⟩ := rfl
@[simp] theorem applyReset_flen (c v : Bool) : (applyReset c v s).flen = 36 := rfl
@[simp] theorem applyReset_arg (c v : Bool) : (applyReset c v s).arg = 0 := rfl
@[simp] theorem applyReset_mode (c v : Bool) : (applyReset c v s).mode = .idle := rfl
@[simp] theorem applyReset_pin (c v : Bool) : (applyReset c v s).pin = false := rfl
@[simp] theorem applyReset_pol (c v : Bool) : (applyReset c v s).pol = false := rfl
@[simp] theorem applyReset_phase (c v : Bool) : (applyReset c v s).phase = .none := rfl
@[simp] theorem applyReset_cnt (c v : Bool) : (applyReset c v s).cnt = 0 := rfl
@[simp] theorem applyReset_rep (c v : Bool) : (applyReset c v s).rep = 0 := rfl
@[simp] theorem applyReset_bitIdx (c v : Bool) : (applyReset c v s).bitIdx = 0 := rfl
@[simp] theorem applyReset_sym (c v : Bool) : (applyReset c v s).sym = false := rfl
@[simp] theorem applyReset_halt (c v : Bool) : (applyReset c v s).halt = false := rfl
@[simp] theorem applyReset_analogEn (c v : Bool) : (applyReset c v s).analogEn = true := rfl
@[simp] theorem applyReset_ticks (c v : Bool) : (applyReset c v s).ticks = 0 := rfl
@[simp] theorem applyReset_savedWie (c v : Bool) : (applyReset c v s).savedWie = false := rfl
@[simp] theorem applyReset_gie (c v : Bool) : (applyReset c v s).gie = false := rfl
@[simp] theorem applyReset_wdtIe (c v : Bool) : (applyReset c v s).wdtIe = false := rfl
@[simp] theorem applyReset_pcIe (c v : Bool) : (applyReset c v s).pcIe = false := rfl
@[simp] theorem applyReset_wdtIf (c v : Bool) : (applyReset c v s).wdtIf = false := rfl
@[simp] theorem applyReset_pcIf (c v : Bool) : (applyReset c v s).pcIf = false := rfl
@[simp] theorem applyReset_wdrf (c v : Bool) : (applyReset c v s).wdrf = c := rfl
@[simp] theorem applyReset_pcLast (c v : Bool) : (applyReset c v s).pcLast = v := rfl
@[simp] theorem applyReset_wdtEn (c v : Bool) : (applyReset c v s).wdtEn = false := rfl
@[simp] theorem applyReset_wdtIdx (c v : Bool) : (applyReset c v s).wdtIdx = 0 := rfl
@[simp] theorem applyReset_wdtCnt (c v : Bool) : (applyReset c v s).wdtCnt = 0 := rfl
@[simp] theorem applyReset_cmdErr (c v : Bool) : (applyReset c v s).cmdErr = false := rfl
@[simp] theorem applyReset_params (c v : Bool) : (applyReset c v s).params = s.params := rfl
@[simp] theorem applyReset_host (c v : Bool) : (applyReset c v s).host = s.host := rfl
@[simp] theorem applyReset_pins (c v : Bool) : (applyReset c v s).pins = s.pins := rfl
@[simp] theorem applyReset_reqReady (c v : Bool) : (applyReset c v s).reqReady = s.reqReady := rfl
@[simp] theorem applyReset_rspRdata (c v : Bool) : (applyReset c v s).rspRdata = s.rspRdata := rfl

/-! ### `raiseCmdError`: CmdError (60_exceptions R191). -/

@[simp] theorem raiseCmdError_temp : (raiseCmdError s).temp = s.temp := rfl
@[simp] theorem raiseCmdError_hum : (raiseCmdError s).hum = s.hum := rfl
@[simp] theorem raiseCmdError_devId : (raiseCmdError s).devId = s.devId := rfl
@[simp] theorem raiseCmdError_chan : (raiseCmdError s).chan = s.chan := rfl
@[simp] theorem raiseCmdError_battOk : (raiseCmdError s).battOk = s.battOk := rfl
@[simp] theorem raiseCmdError_frame : (raiseCmdError s).frame = s.frame := rfl
@[simp] theorem raiseCmdError_flen : (raiseCmdError s).flen = s.flen := rfl
@[simp] theorem raiseCmdError_arg : (raiseCmdError s).arg = s.arg := rfl
@[simp] theorem raiseCmdError_mode : (raiseCmdError s).mode = s.mode := rfl
@[simp] theorem raiseCmdError_pin : (raiseCmdError s).pin = s.pin := rfl
@[simp] theorem raiseCmdError_pol : (raiseCmdError s).pol = s.pol := rfl
@[simp] theorem raiseCmdError_phase : (raiseCmdError s).phase = s.phase := rfl
@[simp] theorem raiseCmdError_cnt : (raiseCmdError s).cnt = s.cnt := rfl
@[simp] theorem raiseCmdError_rep : (raiseCmdError s).rep = s.rep := rfl
@[simp] theorem raiseCmdError_bitIdx : (raiseCmdError s).bitIdx = s.bitIdx := rfl
@[simp] theorem raiseCmdError_sym : (raiseCmdError s).sym = s.sym := rfl
@[simp] theorem raiseCmdError_halt : (raiseCmdError s).halt = s.halt := rfl
@[simp] theorem raiseCmdError_analogEn : (raiseCmdError s).analogEn = s.analogEn := rfl
@[simp] theorem raiseCmdError_ticks : (raiseCmdError s).ticks = s.ticks := rfl
@[simp] theorem raiseCmdError_savedWie : (raiseCmdError s).savedWie = s.savedWie := rfl
@[simp] theorem raiseCmdError_gie : (raiseCmdError s).gie = s.gie := rfl
@[simp] theorem raiseCmdError_wdtIe : (raiseCmdError s).wdtIe = s.wdtIe := rfl
@[simp] theorem raiseCmdError_pcIe : (raiseCmdError s).pcIe = s.pcIe := rfl
@[simp] theorem raiseCmdError_wdtIf : (raiseCmdError s).wdtIf = s.wdtIf := rfl
@[simp] theorem raiseCmdError_pcIf : (raiseCmdError s).pcIf = s.pcIf := rfl
@[simp] theorem raiseCmdError_wdrf : (raiseCmdError s).wdrf = s.wdrf := rfl
@[simp] theorem raiseCmdError_pcLast : (raiseCmdError s).pcLast = s.pcLast := rfl
@[simp] theorem raiseCmdError_wdtEn : (raiseCmdError s).wdtEn = s.wdtEn := rfl
@[simp] theorem raiseCmdError_wdtIdx : (raiseCmdError s).wdtIdx = s.wdtIdx := rfl
@[simp] theorem raiseCmdError_wdtCnt : (raiseCmdError s).wdtCnt = s.wdtCnt := rfl
@[simp] theorem raiseCmdError_cmdErr : (raiseCmdError s).cmdErr = true := rfl
@[simp] theorem raiseCmdError_params : (raiseCmdError s).params = s.params := rfl
@[simp] theorem raiseCmdError_host : (raiseCmdError s).host = s.host := rfl
@[simp] theorem raiseCmdError_pins : (raiseCmdError s).pins = s.pins := rfl
@[simp] theorem raiseCmdError_reqReady : (raiseCmdError s).reqReady = s.reqReady := rfl
@[simp] theorem raiseCmdError_rspRdata : (raiseCmdError s).rspRdata = s.rspRdata := rfl

/-! ### `startSync`: StartSync (42_transmitter R143). -/

@[simp] theorem startSync_temp : (startSync s).temp = s.temp := rfl
@[simp] theorem startSync_hum : (startSync s).hum = s.hum := rfl
@[simp] theorem startSync_devId : (startSync s).devId = s.devId := rfl
@[simp] theorem startSync_chan : (startSync s).chan = s.chan := rfl
@[simp] theorem startSync_battOk : (startSync s).battOk = s.battOk := rfl
@[simp] theorem startSync_frame : (startSync s).frame = s.frame := rfl
@[simp] theorem startSync_flen : (startSync s).flen = s.flen := rfl
@[simp] theorem startSync_arg : (startSync s).arg = s.arg := rfl
@[simp] theorem startSync_mode : (startSync s).mode = s.mode := rfl
@[simp] theorem startSync_pin : (startSync s).pin = !s.pol := rfl
@[simp] theorem startSync_pol : (startSync s).pol = !s.pol := rfl
@[simp] theorem startSync_phase : (startSync s).phase = .sync := rfl
@[simp] theorem startSync_cnt : (startSync s).cnt = cycles s.params.tSync := rfl
@[simp] theorem startSync_rep : (startSync s).rep = s.rep := rfl
@[simp] theorem startSync_bitIdx : (startSync s).bitIdx = s.bitIdx := rfl
@[simp] theorem startSync_sym : (startSync s).sym = s.sym := rfl
@[simp] theorem startSync_halt : (startSync s).halt = s.halt := rfl
@[simp] theorem startSync_analogEn : (startSync s).analogEn = s.analogEn := rfl
@[simp] theorem startSync_ticks : (startSync s).ticks = s.ticks := rfl
@[simp] theorem startSync_savedWie : (startSync s).savedWie = s.savedWie := rfl
@[simp] theorem startSync_gie : (startSync s).gie = s.gie := rfl
@[simp] theorem startSync_wdtIe : (startSync s).wdtIe = s.wdtIe := rfl
@[simp] theorem startSync_pcIe : (startSync s).pcIe = s.pcIe := rfl
@[simp] theorem startSync_wdtIf : (startSync s).wdtIf = s.wdtIf := rfl
@[simp] theorem startSync_pcIf : (startSync s).pcIf = s.pcIf := rfl
@[simp] theorem startSync_wdrf : (startSync s).wdrf = s.wdrf := rfl
@[simp] theorem startSync_pcLast : (startSync s).pcLast = s.pcLast := rfl
@[simp] theorem startSync_wdtEn : (startSync s).wdtEn = s.wdtEn := rfl
@[simp] theorem startSync_wdtIdx : (startSync s).wdtIdx = s.wdtIdx := rfl
@[simp] theorem startSync_wdtCnt : (startSync s).wdtCnt = s.wdtCnt := rfl
@[simp] theorem startSync_cmdErr : (startSync s).cmdErr = s.cmdErr := rfl
@[simp] theorem startSync_params : (startSync s).params = s.params := rfl
@[simp] theorem startSync_host : (startSync s).host = s.host := rfl
@[simp] theorem startSync_pins : (startSync s).pins = s.pins := rfl
@[simp] theorem startSync_reqReady : (startSync s).reqReady = s.reqReady := rfl
@[simp] theorem startSync_rspRdata : (startSync s).rspRdata = s.rspRdata := rfl

/-! ### `startBit`: StartBit (42_transmitter R144). -/

@[simp] theorem startBit_temp (b : Bool) : (startBit b s).temp = s.temp := rfl
@[simp] theorem startBit_hum (b : Bool) : (startBit b s).hum = s.hum := rfl
@[simp] theorem startBit_devId (b : Bool) : (startBit b s).devId = s.devId := rfl
@[simp] theorem startBit_chan (b : Bool) : (startBit b s).chan = s.chan := rfl
@[simp] theorem startBit_battOk (b : Bool) : (startBit b s).battOk = s.battOk := rfl
@[simp] theorem startBit_frame (b : Bool) : (startBit b s).frame = s.frame := rfl
@[simp] theorem startBit_flen (b : Bool) : (startBit b s).flen = s.flen := rfl
@[simp] theorem startBit_arg (b : Bool) : (startBit b s).arg = s.arg := rfl
@[simp] theorem startBit_mode (b : Bool) : (startBit b s).mode = s.mode := rfl
@[simp] theorem startBit_pin (b : Bool) : (startBit b s).pin = !s.pol := rfl
@[simp] theorem startBit_pol (b : Bool) : (startBit b s).pol = s.pol := rfl
@[simp] theorem startBit_phase (b : Bool) : (startBit b s).phase = .pulse := rfl
@[simp] theorem startBit_cnt (b : Bool) : (startBit b s).cnt = cycles s.params.tDummy := rfl
@[simp] theorem startBit_rep (b : Bool) : (startBit b s).rep = s.rep := rfl
@[simp] theorem startBit_bitIdx (b : Bool) : (startBit b s).bitIdx = s.bitIdx := rfl
@[simp] theorem startBit_sym (b : Bool) : (startBit b s).sym = b := rfl
@[simp] theorem startBit_halt (b : Bool) : (startBit b s).halt = s.halt := rfl
@[simp] theorem startBit_analogEn (b : Bool) : (startBit b s).analogEn = s.analogEn := rfl
@[simp] theorem startBit_ticks (b : Bool) : (startBit b s).ticks = s.ticks := rfl
@[simp] theorem startBit_savedWie (b : Bool) : (startBit b s).savedWie = s.savedWie := rfl
@[simp] theorem startBit_gie (b : Bool) : (startBit b s).gie = s.gie := rfl
@[simp] theorem startBit_wdtIe (b : Bool) : (startBit b s).wdtIe = s.wdtIe := rfl
@[simp] theorem startBit_pcIe (b : Bool) : (startBit b s).pcIe = s.pcIe := rfl
@[simp] theorem startBit_wdtIf (b : Bool) : (startBit b s).wdtIf = s.wdtIf := rfl
@[simp] theorem startBit_pcIf (b : Bool) : (startBit b s).pcIf = s.pcIf := rfl
@[simp] theorem startBit_wdrf (b : Bool) : (startBit b s).wdrf = s.wdrf := rfl
@[simp] theorem startBit_pcLast (b : Bool) : (startBit b s).pcLast = s.pcLast := rfl
@[simp] theorem startBit_wdtEn (b : Bool) : (startBit b s).wdtEn = s.wdtEn := rfl
@[simp] theorem startBit_wdtIdx (b : Bool) : (startBit b s).wdtIdx = s.wdtIdx := rfl
@[simp] theorem startBit_wdtCnt (b : Bool) : (startBit b s).wdtCnt = s.wdtCnt := rfl
@[simp] theorem startBit_cmdErr (b : Bool) : (startBit b s).cmdErr = s.cmdErr := rfl
@[simp] theorem startBit_params (b : Bool) : (startBit b s).params = s.params := rfl
@[simp] theorem startBit_host (b : Bool) : (startBit b s).host = s.host := rfl
@[simp] theorem startBit_pins (b : Bool) : (startBit b s).pins = s.pins := rfl
@[simp] theorem startBit_reqReady (b : Bool) : (startBit b s).reqReady = s.reqReady := rfl
@[simp] theorem startBit_rspRdata (b : Bool) : (startBit b s).rspRdata = s.rspRdata := rfl

/-! ### `endPulse`: EndPulse (42_transmitter R146). -/

@[simp] theorem endPulse_temp : (endPulse s).temp = s.temp := rfl
@[simp] theorem endPulse_hum : (endPulse s).hum = s.hum := rfl
@[simp] theorem endPulse_devId : (endPulse s).devId = s.devId := rfl
@[simp] theorem endPulse_chan : (endPulse s).chan = s.chan := rfl
@[simp] theorem endPulse_battOk : (endPulse s).battOk = s.battOk := rfl
@[simp] theorem endPulse_frame : (endPulse s).frame = s.frame := rfl
@[simp] theorem endPulse_flen : (endPulse s).flen = s.flen := rfl
@[simp] theorem endPulse_arg : (endPulse s).arg = s.arg := rfl
@[simp] theorem endPulse_mode : (endPulse s).mode = s.mode := rfl
@[simp] theorem endPulse_pin : (endPulse s).pin = s.pol := rfl
@[simp] theorem endPulse_pol : (endPulse s).pol = s.pol := rfl
@[simp] theorem endPulse_phase : (endPulse s).phase = .hold := rfl
@[simp] theorem endPulse_cnt : (endPulse s).cnt = cycles (holdCycles s.params s.sym) := rfl
@[simp] theorem endPulse_rep : (endPulse s).rep = s.rep := rfl
@[simp] theorem endPulse_bitIdx : (endPulse s).bitIdx = s.bitIdx := rfl
@[simp] theorem endPulse_sym : (endPulse s).sym = s.sym := rfl
@[simp] theorem endPulse_halt : (endPulse s).halt = s.halt := rfl
@[simp] theorem endPulse_analogEn : (endPulse s).analogEn = s.analogEn := rfl
@[simp] theorem endPulse_ticks : (endPulse s).ticks = s.ticks := rfl
@[simp] theorem endPulse_savedWie : (endPulse s).savedWie = s.savedWie := rfl
@[simp] theorem endPulse_gie : (endPulse s).gie = s.gie := rfl
@[simp] theorem endPulse_wdtIe : (endPulse s).wdtIe = s.wdtIe := rfl
@[simp] theorem endPulse_pcIe : (endPulse s).pcIe = s.pcIe := rfl
@[simp] theorem endPulse_wdtIf : (endPulse s).wdtIf = s.wdtIf := rfl
@[simp] theorem endPulse_pcIf : (endPulse s).pcIf = s.pcIf := rfl
@[simp] theorem endPulse_wdrf : (endPulse s).wdrf = s.wdrf := rfl
@[simp] theorem endPulse_pcLast : (endPulse s).pcLast = s.pcLast := rfl
@[simp] theorem endPulse_wdtEn : (endPulse s).wdtEn = s.wdtEn := rfl
@[simp] theorem endPulse_wdtIdx : (endPulse s).wdtIdx = s.wdtIdx := rfl
@[simp] theorem endPulse_wdtCnt : (endPulse s).wdtCnt = s.wdtCnt := rfl
@[simp] theorem endPulse_cmdErr : (endPulse s).cmdErr = s.cmdErr := rfl
@[simp] theorem endPulse_params : (endPulse s).params = s.params := rfl
@[simp] theorem endPulse_host : (endPulse s).host = s.host := rfl
@[simp] theorem endPulse_pins : (endPulse s).pins = s.pins := rfl
@[simp] theorem endPulse_reqReady : (endPulse s).reqReady = s.reqReady := rfl
@[simp] theorem endPulse_rspRdata : (endPulse s).rspRdata = s.rspRdata := rfl

/-! ### `endSymbol`: EndSymbol (42_transmitter R147). -/

@[simp] theorem endSymbol_temp : (endSymbol s).temp = s.temp := rfl
@[simp] theorem endSymbol_hum : (endSymbol s).hum = s.hum := rfl
@[simp] theorem endSymbol_devId : (endSymbol s).devId = s.devId := rfl
@[simp] theorem endSymbol_chan : (endSymbol s).chan = s.chan := rfl
@[simp] theorem endSymbol_battOk : (endSymbol s).battOk = s.battOk := rfl
@[simp] theorem endSymbol_frame : (endSymbol s).frame = s.frame := rfl
@[simp] theorem endSymbol_flen : (endSymbol s).flen = s.flen := rfl
@[simp] theorem endSymbol_arg : (endSymbol s).arg = s.arg := rfl
@[simp] theorem endSymbol_mode : (endSymbol s).mode = .idle := rfl
@[simp] theorem endSymbol_pin : (endSymbol s).pin = s.pin := rfl
@[simp] theorem endSymbol_pol : (endSymbol s).pol = s.pol := rfl
@[simp] theorem endSymbol_phase : (endSymbol s).phase = .none := rfl
@[simp] theorem endSymbol_cnt : (endSymbol s).cnt = 0 := rfl
@[simp] theorem endSymbol_rep : (endSymbol s).rep = s.rep := rfl
@[simp] theorem endSymbol_bitIdx : (endSymbol s).bitIdx = s.bitIdx := rfl
@[simp] theorem endSymbol_sym : (endSymbol s).sym = s.sym := rfl
@[simp] theorem endSymbol_halt : (endSymbol s).halt = s.halt := rfl
@[simp] theorem endSymbol_analogEn : (endSymbol s).analogEn = s.analogEn := rfl
@[simp] theorem endSymbol_ticks : (endSymbol s).ticks = s.ticks := rfl
@[simp] theorem endSymbol_savedWie : (endSymbol s).savedWie = s.savedWie := rfl
@[simp] theorem endSymbol_gie : (endSymbol s).gie = s.gie := rfl
@[simp] theorem endSymbol_wdtIe : (endSymbol s).wdtIe = s.wdtIe := rfl
@[simp] theorem endSymbol_pcIe : (endSymbol s).pcIe = s.pcIe := rfl
@[simp] theorem endSymbol_wdtIf : (endSymbol s).wdtIf = s.wdtIf := rfl
@[simp] theorem endSymbol_pcIf : (endSymbol s).pcIf = s.pcIf := rfl
@[simp] theorem endSymbol_wdrf : (endSymbol s).wdrf = s.wdrf := rfl
@[simp] theorem endSymbol_pcLast : (endSymbol s).pcLast = s.pcLast := rfl
@[simp] theorem endSymbol_wdtEn : (endSymbol s).wdtEn = s.wdtEn := rfl
@[simp] theorem endSymbol_wdtIdx : (endSymbol s).wdtIdx = s.wdtIdx := rfl
@[simp] theorem endSymbol_wdtCnt : (endSymbol s).wdtCnt = s.wdtCnt := rfl
@[simp] theorem endSymbol_cmdErr : (endSymbol s).cmdErr = s.cmdErr := rfl
@[simp] theorem endSymbol_params : (endSymbol s).params = s.params := rfl
@[simp] theorem endSymbol_host : (endSymbol s).host = s.host := rfl
@[simp] theorem endSymbol_pins : (endSymbol s).pins = s.pins := rfl
@[simp] theorem endSymbol_reqReady : (endSymbol s).reqReady = s.reqReady := rfl
@[simp] theorem endSymbol_rspRdata : (endSymbol s).rspRdata = s.rspRdata := rfl

/-! ### `endFrame`: The end of the last repeat (42_transmitter R149). -/

@[simp] theorem endFrame_temp : (endFrame s).temp = s.temp := rfl
@[simp] theorem endFrame_hum : (endFrame s).hum = s.hum := rfl
@[simp] theorem endFrame_devId : (endFrame s).devId = s.devId := rfl
@[simp] theorem endFrame_chan : (endFrame s).chan = s.chan := rfl
@[simp] theorem endFrame_battOk : (endFrame s).battOk = s.battOk := rfl
@[simp] theorem endFrame_frame : (endFrame s).frame = s.frame := rfl
@[simp] theorem endFrame_flen : (endFrame s).flen = s.flen := rfl
@[simp] theorem endFrame_arg : (endFrame s).arg = s.arg := rfl
@[simp] theorem endFrame_mode : (endFrame s).mode = .idle := rfl
@[simp] theorem endFrame_pin : (endFrame s).pin = false := rfl
@[simp] theorem endFrame_pol : (endFrame s).pol = false := rfl
@[simp] theorem endFrame_phase : (endFrame s).phase = .none := rfl
@[simp] theorem endFrame_cnt : (endFrame s).cnt = 0 := rfl
@[simp] theorem endFrame_rep : (endFrame s).rep = s.rep := rfl
@[simp] theorem endFrame_bitIdx : (endFrame s).bitIdx = s.bitIdx := rfl
@[simp] theorem endFrame_sym : (endFrame s).sym = s.sym := rfl
@[simp] theorem endFrame_halt : (endFrame s).halt = s.halt := rfl
@[simp] theorem endFrame_analogEn : (endFrame s).analogEn = s.analogEn := rfl
@[simp] theorem endFrame_ticks : (endFrame s).ticks = s.ticks := rfl
@[simp] theorem endFrame_savedWie : (endFrame s).savedWie = s.savedWie := rfl
@[simp] theorem endFrame_gie : (endFrame s).gie = s.gie := rfl
@[simp] theorem endFrame_wdtIe : (endFrame s).wdtIe = s.wdtIe := rfl
@[simp] theorem endFrame_pcIe : (endFrame s).pcIe = s.pcIe := rfl
@[simp] theorem endFrame_wdtIf : (endFrame s).wdtIf = s.wdtIf := rfl
@[simp] theorem endFrame_pcIf : (endFrame s).pcIf = s.pcIf := rfl
@[simp] theorem endFrame_wdrf : (endFrame s).wdrf = s.wdrf := rfl
@[simp] theorem endFrame_pcLast : (endFrame s).pcLast = s.pcLast := rfl
@[simp] theorem endFrame_wdtEn : (endFrame s).wdtEn = s.wdtEn := rfl
@[simp] theorem endFrame_wdtIdx : (endFrame s).wdtIdx = s.wdtIdx := rfl
@[simp] theorem endFrame_wdtCnt : (endFrame s).wdtCnt = s.wdtCnt := rfl
@[simp] theorem endFrame_cmdErr : (endFrame s).cmdErr = s.cmdErr := rfl
@[simp] theorem endFrame_params : (endFrame s).params = s.params := rfl
@[simp] theorem endFrame_host : (endFrame s).host = s.host := rfl
@[simp] theorem endFrame_pins : (endFrame s).pins = s.pins := rfl
@[simp] theorem endFrame_reqReady : (endFrame s).reqReady = s.reqReady := rfl
@[simp] theorem endFrame_rspRdata : (endFrame s).rspRdata = s.rspRdata := rfl

/-! ### `beginSymbol`: The start of a symbol command (42_transmitter R151, R152). -/

@[simp] theorem beginSymbol_temp : (beginSymbol s).temp = s.temp := rfl
@[simp] theorem beginSymbol_hum : (beginSymbol s).hum = s.hum := rfl
@[simp] theorem beginSymbol_devId : (beginSymbol s).devId = s.devId := rfl
@[simp] theorem beginSymbol_chan : (beginSymbol s).chan = s.chan := rfl
@[simp] theorem beginSymbol_battOk : (beginSymbol s).battOk = s.battOk := rfl
@[simp] theorem beginSymbol_frame : (beginSymbol s).frame = s.frame := rfl
@[simp] theorem beginSymbol_flen : (beginSymbol s).flen = s.flen := rfl
@[simp] theorem beginSymbol_arg : (beginSymbol s).arg = s.arg := rfl
@[simp] theorem beginSymbol_mode : (beginSymbol s).mode = .txSym := rfl
@[simp] theorem beginSymbol_pin : (beginSymbol s).pin = s.pin := rfl
@[simp] theorem beginSymbol_pol : (beginSymbol s).pol = s.pol := rfl
@[simp] theorem beginSymbol_phase : (beginSymbol s).phase = s.phase := rfl
@[simp] theorem beginSymbol_cnt : (beginSymbol s).cnt = s.cnt := rfl
@[simp] theorem beginSymbol_rep : (beginSymbol s).rep = 0 := rfl
@[simp] theorem beginSymbol_bitIdx : (beginSymbol s).bitIdx = 0 := rfl
@[simp] theorem beginSymbol_sym : (beginSymbol s).sym = s.sym := rfl
@[simp] theorem beginSymbol_halt : (beginSymbol s).halt = s.halt := rfl
@[simp] theorem beginSymbol_analogEn : (beginSymbol s).analogEn = s.analogEn := rfl
@[simp] theorem beginSymbol_ticks : (beginSymbol s).ticks = s.ticks := rfl
@[simp] theorem beginSymbol_savedWie : (beginSymbol s).savedWie = s.savedWie := rfl
@[simp] theorem beginSymbol_gie : (beginSymbol s).gie = s.gie := rfl
@[simp] theorem beginSymbol_wdtIe : (beginSymbol s).wdtIe = s.wdtIe := rfl
@[simp] theorem beginSymbol_pcIe : (beginSymbol s).pcIe = s.pcIe := rfl
@[simp] theorem beginSymbol_wdtIf : (beginSymbol s).wdtIf = s.wdtIf := rfl
@[simp] theorem beginSymbol_pcIf : (beginSymbol s).pcIf = s.pcIf := rfl
@[simp] theorem beginSymbol_wdrf : (beginSymbol s).wdrf = s.wdrf := rfl
@[simp] theorem beginSymbol_pcLast : (beginSymbol s).pcLast = s.pcLast := rfl
@[simp] theorem beginSymbol_wdtEn : (beginSymbol s).wdtEn = s.wdtEn := rfl
@[simp] theorem beginSymbol_wdtIdx : (beginSymbol s).wdtIdx = s.wdtIdx := rfl
@[simp] theorem beginSymbol_wdtCnt : (beginSymbol s).wdtCnt = s.wdtCnt := rfl
@[simp] theorem beginSymbol_cmdErr : (beginSymbol s).cmdErr = s.cmdErr := rfl
@[simp] theorem beginSymbol_params : (beginSymbol s).params = s.params := rfl
@[simp] theorem beginSymbol_host : (beginSymbol s).host = s.host := rfl
@[simp] theorem beginSymbol_pins : (beginSymbol s).pins = s.pins := rfl
@[simp] theorem beginSymbol_reqReady : (beginSymbol s).reqReady = s.reqReady := rfl
@[simp] theorem beginSymbol_rspRdata : (beginSymbol s).rspRdata = s.rspRdata := rfl

end Sys2Proof.Machine
end

