-- ==== Sys2Proof/Laws/Cycle.lean ====
section
/-!
SUPPORT. One lemma per shared operation of a cycle, saying all it can do: acceptance, the engines, the host write,
the cycle itself.
-/

namespace Sys2Proof.Machine

variable {s : State}

/-- The acceptance rule (20_memory R62; 70_reset_and_hazards R220). -/
theorem accepted_eq_some_iff {r : Request} : accepted s = some r ↔
    presented s = some r ∧ (pinSample s).rst = false ∧ (r.we = false ∨ s.mode = .idle) := by
  unfold accepted
  cases h : presented s with
  | none => simp
  | some q =>
    simp only [Option.ite_none_right_eq_some, Option.some.injEq, Bool.and_eq_true, Bool.not_eq_true',
      Bool.or_eq_true, beq_iff_eq]
    constructor
    · rintro ⟨⟨h1, h2⟩, rfl⟩
      exact ⟨rfl, h1, h2⟩
    · rintro ⟨rfl, h1, h2⟩
      exact ⟨⟨h1, h2⟩, rfl⟩

/-- An accepted write is one presented to an idle block outside a reset cycle (20_memory R62). -/
theorem acceptedWrite_eq_some_iff {r : Request} : acceptedWrite s = some r ↔
    presented s = some r ∧ (pinSample s).rst = false ∧ r.we = true ∧ s.mode = .idle := by
  rw [acceptedWrite, Option.filter_eq_some_iff, accepted_eq_some_iff]
  constructor
  · rintro ⟨⟨h1, h2, h3⟩, h4⟩
    exact ⟨h1, h2, h4, h3.resolve_left (by simp [h4])⟩
  · rintro ⟨h1, h2, h3, h4⟩
    exact ⟨⟨h1, h2, .inr h4⟩, h3⟩

/-- A busy block accepts no write (20_memory R62). -/
theorem acceptedWrite_of_busy (h : s.mode ≠ .idle) : acceptedWrite s = none := by
  cases hw : acceptedWrite s with
  | none => rfl
  | some r => exact absurd (acceptedWrite_eq_some_iff.mp hw).2.2.2 h

/-- A silent host has nothing accepted. -/
theorem acceptedWrite_of_silent (h : s.host = []) : acceptedWrite s = none := by
  simp [acceptedWrite, accepted, presented, h]

/-- What the end of a repeat can be (42_transmitter R149). -/
theorem endRepeat_cases (s : State) :
    (s.rep.toNat + 1 < 3 ∧ endRepeat s = startSync { s with rep := s.rep + 1, bitIdx := 0 }) ∨
    (3 ≤ s.rep.toNat + 1 ∧ endRepeat s = endFrame s) := by
  unfold endRepeat Config.nRepeat
  split
  · exact .inl ⟨‹_›, rfl⟩
  · exact .inr ⟨by omega, rfl⟩

/-- What follows a sync or a data bit in a frame (42_transmitter R148, R149). -/
theorem nextInFrame_cases (s : State) :
    (nextBitIdx s < s.flen.toNat ∧ nextInFrame s =
      startBit (frameBit s.frame (nextBitIdx s)) { s with bitIdx := BitVec.ofNat 6 (nextBitIdx s) }) ∨
    (s.flen.toNat ≤ nextBitIdx s ∧ nextInFrame s = endRepeat s) := by
  unfold nextInFrame
  split
  · exact .inl ⟨‹_›, rfl⟩
  · exact .inr ⟨by omega, rfl⟩

/-- What a transmitter step can do (42_transmitter R145). -/
theorem txStep_cases (s : State) :
    (1 < s.cnt.toNat ∧ txStep s = { s with cnt := s.cnt - 1 }) ∨
    (s.cnt.toNat ≤ 1 ∧
      ((s.phase = .none ∧ txStep s = s) ∨
       (s.phase = .lead ∧ txStep s = startSync s) ∨
       (s.phase = .pulse ∧ txStep s = endPulse s) ∨
       ((s.phase = .sync ∨ s.phase = .hold) ∧ s.mode = .txSym ∧ txStep s = endSymbol s) ∨
       ((s.phase = .sync ∨ s.phase = .hold) ∧ s.mode ≠ .txSym ∧ txStep s = nextInFrame s))) := by
  unfold txStep
  split
  · exact .inl ⟨‹_›, rfl⟩
  · refine .inr ⟨by omega, ?_⟩
    unfold endSegment
    cases hp : s.phase <;> by_cases hm : s.mode = .txSym <;> simp [hm]

/-- What a cycle of a timed sleep can do (43_scheduler R176). -/
theorem tSleepStep_cases (woken : Bool) (s : State) :
    (s.halt = false ∧ tSleepStep woken s = { s with halt := true }) ∨
    (s.halt = true ∧ woken = false ∧ tSleepStep woken s = s) ∨
    (s.halt = true ∧ woken = true ∧ s.ticks.toNat + 1 < s.arg.toNat ∧
      tSleepStep woken s = { s with ticks := s.ticks + 1, halt := false }) ∨
    (s.halt = true ∧ woken = true ∧ s.arg.toNat ≤ s.ticks.toNat + 1 ∧
      tSleepStep woken s = { s with ticks := s.ticks + 1, halt := false, mode := .idle, analogEn := true }) := by
  unfold tSleepStep
  cases h : s.halt
  · exact .inl ⟨rfl, rfl⟩
  · cases woken
    · exact .inr (.inl ⟨rfl, rfl, rfl⟩)
    · by_cases hk : s.arg.toNat ≤ s.ticks.toNat + 1
      · exact .inr (.inr (.inr ⟨rfl, rfl, hk, by simp [hk]⟩))
      · exact .inr (.inr (.inl ⟨rfl, rfl, by omega, by simp [hk]⟩))

/-- What a cycle of an event sleep can do (43_scheduler R181). -/
theorem eSleepStep_cases (dP : Bool) (s : State) :
    (dP = false ∧ eSleepStep dP s = s) ∨
    (dP = true ∧ eSleepStep dP s =
      { s with halt := false, pcIe := false, wdtIe := s.savedWie, gie := true, mode := .idle }) := by
  cases dP
  · exact .inl ⟨rfl, rfl⟩
  · exact .inr ⟨rfl, by simp [eSleepStep, eSleepStepWith, Config.evtRestoreWdtIe]⟩

/-- An idle block has no engine running (10_state R40). -/
theorem engineStep_idle (woken dP : Bool) (h : s.mode = .idle) : engineStep woken dP s = s := by
  simp [engineStep, h]

/-- The frame of a transmitter step: it writes no field but the transmitter's own (42_transmitter R140). -/
theorem txStep_frame (s : State) : txStep s = { s with
    mode := (txStep s).mode, pin := (txStep s).pin, pol := (txStep s).pol, phase := (txStep s).phase,
    cnt := (txStep s).cnt, rep := (txStep s).rep, bitIdx := (txStep s).bitIdx, sym := (txStep s).sym } := by
  rcases txStep_cases s with ⟨-, h⟩ | ⟨-, ⟨-, h⟩ | ⟨-, h⟩ | ⟨-, h⟩ | ⟨-, -, h⟩ | ⟨-, -, h⟩⟩ <;> rw [h]
  · rfl
  · rfl
  · rfl
  · rcases nextInFrame_cases s with ⟨-, h2⟩ | ⟨-, h2⟩ <;> rw [h2]
    · rfl
    · rcases endRepeat_cases s with ⟨-, h3⟩ | ⟨-, h3⟩ <;> rw [h3] <;> rfl

/-- The frame of a running engine (10_state R40 phase 5): it writes no reading, no frame byte, no argument, no pending
flag, no watchdog field, no error flag and none of the model's own fields. -/
theorem engineStep_frame (woken dP : Bool) (s : State) : ∃ m pn pl ph c r b sy h a tk g w pe,
    engineStep woken dP s = { s with
      mode := m, pin := pn, pol := pl, phase := ph, cnt := c, rep := r, bitIdx := b, sym := sy,
      halt := h, analogEn := a, ticks := tk, gie := g, wdtIe := w, pcIe := pe } := by
  cases hm : s.mode
  · exact ⟨_, _, _, _, _, _, _, _, _, _, _, _, _, _, by rw [engineStep_idle _ _ hm]⟩
  · exact ⟨_, _, _, _, _, _, _, _, s.halt, s.analogEn, s.ticks, s.gie, s.wdtIe, s.pcIe, by
      simp only [engineStep, hm]; exact txStep_frame s⟩
  · exact ⟨_, _, _, _, _, _, _, _, s.halt, s.analogEn, s.ticks, s.gie, s.wdtIe, s.pcIe, by
      simp only [engineStep, hm]; exact txStep_frame s⟩
  · simp only [engineStep, hm]
    rcases tSleepStep_cases woken s with ⟨-, h⟩ | ⟨-, -, h⟩ | ⟨-, -, -, h⟩ | ⟨-, -, -, h⟩ <;> rw [h] <;>
      exact ⟨_, _, _, _, _, _, _, _, _, _, _, _, _, _, rfl⟩
  · simp only [engineStep, hm]
    rcases eSleepStep_cases dP s with ⟨-, h⟩ | ⟨-, h⟩ <;> rw [h] <;>
      exact ⟨_, _, _, _, _, _, _, _, _, _, _, _, _, _, rfl⟩

/-- A write to any register but CMD (20_memory R63). -/
theorem regWrite_of_ne_cmd {a : RegAddr} (v : Word) (h : a ≠ 0xA) :
    regWrite a v s = .next (writeReg s v (Reg.ofAddr a)) := by
  rw [regWrite, if_neg fun hc => h ((Reg.ofAddr_eq_cmd_iff a).mp hc)]

/-- A write to CMD executes it (20_memory R63). -/
theorem regWrite_cmd (v : Word) : regWrite 0xA v s = execute v s := rfl

/-- Executing a legal word is the command's `exec` (40_dispatch R101). -/
theorem execute_of_decode {w : Word} {i : Instr} (h : decode w = some i) : execute w s = exec i s := by
  simp [execute, h]

/-- Executing an illegal word raises CmdError (40_dispatch R103). -/
theorem execute_of_illegal {w : Word} (h : decode w = none) : execute w s = .next (raiseCmdError s) := by
  simp [execute, h]

/-- A reset cycle (70_reset_and_hazards R220). -/
theorem step_of_reset (h : (pinSample s).rst = true) :
    step s = .next (applyReset (pinSample s).rstCauseWdt (pinSample s).pcint (takePort s)) := by
  simp [step, cycle, h]

/-- A cycle with no accepted write (10_state R40). -/
theorem step_of_no_write (h : (pinSample s).rst = false) (hw : acceptedWrite s = none) :
    step s = .next (cycleBeforeWrite s) := by
  simp [step, cycle, h, hw]

/-- A cycle with an accepted write (10_state R40). -/
theorem step_of_write {r : Request} (hw : acceptedWrite s = some r) :
    step s = regWrite r.addr r.data (cycleBeforeWrite s) := by
  simp [step, cycle, hw, (acceptedWrite_eq_some_iff.mp hw).2.1]

/-- All a cycle can be: a reset, one without a write, or one with an accepted write to an idle block. -/
theorem step_cases (s : State) :
    ((pinSample s).rst = true ∧
      step s = .next (applyReset (pinSample s).rstCauseWdt (pinSample s).pcint (takePort s))) ∨
    ((pinSample s).rst = false ∧ acceptedWrite s = none ∧ step s = .next (cycleBeforeWrite s)) ∨
    (∃ r, (pinSample s).rst = false ∧ s.mode = .idle ∧ acceptedWrite s = some r ∧
      step s = regWrite r.addr r.data (wakePhases (pinSample s).pcint (takePort s))) := by
  cases hr : (pinSample s).rst
  · cases hw : acceptedWrite s with
    | none => exact .inr (.inl ⟨rfl, rfl, step_of_no_write hr hw⟩)
    | some r =>
      have hm := (acceptedWrite_eq_some_iff.mp hw).2.2.2
      refine .inr (.inr ⟨r, rfl, hm, rfl, ?_⟩)
      rw [step_of_write hw, cycleBeforeWrite, engineStep_idle _ _ (by simpa using hm)]
  · exact .inl ⟨rfl, step_of_reset hr⟩

/-- States with the same record S agree with themselves. -/
theorem SameS.refl (s : State) : SameS s s := rfl

/-- The port uses up inputs and keeps an answer; the record S stays. -/
theorem sameS_takePort (s : State) : SameS s (takePort s) := rfl

end Sys2Proof.Machine
end

