-- ==== Sys2Proof/Laws/PerInstr.lean ====
section
/-!
SUPPORT. Per command: its word is well formed as 30_encoding R85 asks (RSV 0, OP the opcode of R87) and decodes to it.
-/

namespace Sys2Proof.Laws.Encoding

/-- The command is well formed, its word has RSV = 0 and its opcode in OP, and decodes to the command. -/
def Statement (i : Instr) : Prop :=
  i.wellFormed = true ∧ rsvField (encode i) = 0 ∧ opField (encode i) = opcode i ∧ decode (encode i) = some i

theorem nop : Statement .nop := by unfold Statement; decide
theorem build : Statement .build := by unfold Statement; decide
theorem cksum : Statement .cksum := by unfold Statement; decide
theorem sendFrame : Statement .sendFrame := by unfold Statement; decide
theorem sendSync : Statement .sendSync := by unfold Statement; decide
theorem sendZero : Statement .sendZero := by unfold Statement; decide
theorem sendOne : Statement .sendOne := by unfold Statement; decide
theorem wdtSetup : Statement .wdtSetup := by unfold Statement; decide
theorem sleep : Statement .sleep := by unfold Statement; decide
theorem sleepPin : Statement .sleepPin := by unfold Statement; decide

end Sys2Proof.Laws.Encoding
end

