-- ==== Sys2Proof/Laws/Run.lean ====
section
/-!
SUPPORT. Runs of cycles and their ends: how each goes on from one cycle to the next, and that a run that is never idle
has no end.
-/

namespace Sys2Proof.Machine

variable {s t : State}

/-- A run of one cycle more. -/
theorem runCycles_succ_of_step (n : Nat) (h : step s = .next t) : runCycles (n + 1) s = runCycles n t := by
  simp [runCycles, h]

/-- A run goes on where a shorter one ended. -/
theorem runCycles_add {m : Nat} (n : Nat) (h : runCycles m s = .next t) :
    runCycles (m + n) s = runCycles n t := by
  induction m generalizing s with
  | zero =>
    simp only [runCycles, Host.Outcome.next.injEq] at h
    subst h
    rw [Nat.zero_add]
  | succ m ih =>
    rw [Nat.succ_add]
    simp only [runCycles] at h ⊢
    cases hs : step s with
    | next u =>
      simp only [hs] at h
      simpa [hs] using ih h
    | fault r => simp [hs] at h
    | refused r => simp [hs] at h

/-- Only a cycle with nothing presented is no request. -/
theorem HostAction.isRequest_eq_false_iff (a : HostAction) : a.isRequest = false ↔ a = .idle := by
  cases a <;> simp [HostAction.isRequest]

/-- Where a run ends (70_reset_and_hazards R235). -/
theorem atEnd_iff : atEnd s = true ↔ s.mode = .idle ∧ ∀ a ∈ s.host, a = .idle := by
  simp [atEnd, noRequestLeft, HostAction.isRequest_eq_false_iff, and_comm]

/-- A busy block is at no end. -/
theorem atEnd_of_busy (h : s.mode ≠ .idle) : atEnd s = false := by simp [atEnd, h]

/-- Where a request is withdrawn (93_implementation_defined I11). -/
theorem withdraws_eq_false_iff :
    withdraws s = false ↔ ∀ r rest, s.host = .offer r :: rest → reqReadyO s = true := by
  unfold withdraws
  split
  · rename_i r rest h
    simp [h]
  · rename_i h
    exact ⟨fun _ r rest hr => absurd hr (h r rest), fun _ => rfl⟩

/-- A run that is at its end ends now. -/
theorem endWithin_of_atEnd (n : Nat) (h : atEnd s = true) : endWithin n s = some (endNow s) := by
  cases n <;> simp [endWithin, h]

/-- No end in no cycle. -/
theorem endWithin_zero (h : atEnd s = false) : endWithin 0 s = none := by simp [endWithin, h]

/-- A run that withdraws a request has no end. -/
theorem endWithin_of_withdraws (n : Nat) (h : atEnd s = false) (hw : withdraws s = true) : endWithin n s = none := by
  cases n <;> simp [endWithin, h, hw]

/-- A run that goes on ends where the rest of it ends, one cycle later. -/
theorem endWithin_succ_of_step (n : Nat) (h : atEnd s = false) (hw : withdraws s = false) (hs : step s = .next t) :
    endWithin (n + 1) s = (endWithin n t).map oneCycleLater := by
  simp [endWithin, h, hw, hs]

/-- A run that is busy in each of its first cycles ends in none of them. -/
theorem endWithin_eq_none_of_busy {n : Nat} (h : ∀ k ≤ n, ∃ u, runCycles k s = .next u ∧ u.mode ≠ .idle) :
    endWithin n s = none := by
  induction n generalizing s with
  | zero =>
    obtain ⟨u, hu, hm⟩ := h 0 (Nat.le_refl 0)
    cases hu
    exact endWithin_zero (atEnd_of_busy hm)
  | succ n ih =>
    obtain ⟨u, hu, hm⟩ := h 0 (Nat.zero_le _)
    cases hu
    have he := atEnd_of_busy hm
    cases hw : withdraws s with
    | true => exact endWithin_of_withdraws _ he hw
    | false =>
      cases hs : step s with
      | next t =>
        rw [endWithin_succ_of_step n he hw hs, ih fun k hk => ?_]
        · rfl
        · simpa [runCycles_succ_of_step k hs] using h (k + 1) (by omega)
      | fault r => simp [endWithin, he, hw, hs]
      | refused r => simp [endWithin, he, hw, hs]

end Sys2Proof.Machine
end

