-- ==== Sys2Proof/Tests/Slice0.lean ====
section
/-!
SUPPORT. Tests of the model against the vectors of spec 95_test_vectors and the examples of the rules, the well-formedness smoke
tests, and for every obligation with hypotheses a witness that meets them.
-/

namespace Sys2Proof.Machine.Tests

open Sys2Proof Sys2Proof.Machine

/-- The reset state under the parameter values of 95_test_vectors §0. -/
def base : State := { State.reset with params := {} }

/-- A view of the next state an outcome holds. -/
def seen {α : Type} (o : Host.Outcome State Fault Refusal) (view : State → α) : Option α :=
  match o with
  | .next t => some (view t)
  | .fault _ => none
  | .refused _ => none

/-- A reading of 95_test_vectors §3. -/
def reading (temp hum : Word) (battOk : Bool) (devId : BitVec 6) (chan : BitVec 2) : State :=
  { base with temp := temp, hum := hum, battOk := battOk, devId := devId, chan := chan }

/-! ## Well-formedness: a term each check refuses -/

theorem test_wf_read_with_data_refused :
    Request.wellFormed { we := false, addr := 0xF, data := 1 } = false := by decide

theorem test_wf_action_with_bad_request_refused :
    HostAction.wellFormed (.offer { we := false, addr := 0, data := 0x8000 }) = false := by decide

/-- 30_encoding R90: a well-formed read, the witness of RequestWordsRoundTrip's clause on reads. -/
theorem test_wf_status_read : HostAction.wellFormed (rd .status) = true ∧ statusRead.wellFormed = true ∧
    statusRead.we = false := by decide

/-! ## Decoding: words written out from 30_encoding R85 and R87 -/

theorem test_decode_nop : decode 0b0000000000000000 = some .nop := by decide
theorem test_decode_build : decode 0b0000000000000001 = some .build := by decide
theorem test_decode_cksum : decode 0b0000000000000010 = some .cksum := by decide
theorem test_decode_sendFrame : decode 0b0000000000000011 = some .sendFrame := by decide
theorem test_decode_sendSync : decode 0b0000000000000100 = some .sendSync := by decide
theorem test_decode_sendZero : decode 0b0000000000000101 = some .sendZero := by decide
theorem test_decode_sendOne : decode 0b0000000000000110 = some .sendOne := by decide
theorem test_decode_wdtSetup : decode 0b0000000000000111 = some .wdtSetup := by decide
theorem test_decode_sleep : decode 0b0000000000001000 = some .sleep := by decide
theorem test_decode_sleepPin : decode 0b0000000000001001 = some .sleepPin := by decide

/-- 95_test_vectors DC2 to DC5: why each word is illegal. -/
theorem test_decode_illegal_by_name :
    decodeNamed 0x000A = .error .opcodeUnassigned ∧ decodeNamed 0x0011 = .error .reservedNotZero ∧
    decodeNamed 0x000F = .error .opcodeUnassigned ∧ decodeNamed 0xFFFF = .error .reservedNotZero := by
  exact ⟨rfl, rfl, rfl, rfl⟩

/-- 30_encoding R90 and 95_test_vectors P1: `CMD BUILD`, `RD STATUS` and `WR ID, 0x21` as request words. -/
theorem test_request_words :
    encodeRequest { we := true, addr := 0xA, data := 0x0001 } = 0x1A0001 ∧
    encodeRequest statusRead = 0x0F0000 ∧
    encodeRequest { we := true, addr := 0x2, data := 0x21 } = 0x120021 := by decide

theorem test_table_word_with_extra_bit_refused : decodeTableWord 17 0x10001 = none := by decide

/-- The placed command is the first one run after reset. -/
theorem test_placed_cksum_runs :
    seen (step (State.reset.withFetchWord 16 2)) (fun t => (t.host, t.reqReady)) = some ([], true) := by decide

/-! ## Commands, on the vectors of 95_test_vectors -/

/-- DC1. -/
theorem test_nop_status : seen (exec .nop base) (fun t => regRead t 0xF) = some 0x0040 := by decide

/-- V1, BU1. -/
theorem test_build_v1 : seen (exec .build (reading 215 450 true 0x21 0)) (·.frame) =
    some ⟨0x81, 0x0E, 0x0D, 0x5E, 0xE0⟩ := by decide

/-- BU6: a negative temperature. -/
theorem test_build_bu6 : seen (exec .build (reading (-400) 500 true 0x2A 1)) (·.frame) =
    some ⟨0xA6, 0x00, 0xE7, 0x90, 0x70⟩ := by decide

/-- V1a: the other nibble order. -/
theorem test_build_v1a_straight : buildFrame .straight (reading 215 450 true 0x21 0) =
    ⟨0x81, 0x07, 0x0D, 0x5E, 0x00⟩ := by decide

/-- CS1. -/
theorem test_cksum_cs1 :
    seen (exec .cksum { base with frame := ⟨0x12, 0x34, 0x56, 0x78, 0x0F⟩ }) (·.frame.b4) = some 0x20 := by decide

/-- CK16: the bit order inside a nibble counts. -/
theorem test_checksum_ck16 : checksum32 0x84 0xC2 0xA6 0xE1 = 9 := by decide

/-- TX9: from a high pin the lead is the fall. -/
theorem test_sendFrame_lead : seen (exec .sendFrame { base with pin := true, pol := true })
    (fun t => (t.pin, t.pol, t.cnt, regRead t 0xE)) = some (false, false, 1, 0x1000) := by decide

/-- RG11: STATUS in a busy cycle of SEND_SYNC from reset. -/
theorem test_sendSync_status : seen (exec .sendSync base) (fun t => (regRead t 0xF, t.cnt)) =
    some (0x0059, 8) := by decide

/-- TX5: with POL = 1 a zero goes low first. -/
theorem test_sendZero_from_high : seen (exec .sendZero { base with pin := true, pol := true })
    (fun t => (t.pin, t.pol, t.sym, t.cnt)) = some (false, true, false, 1) := by decide

/-- TX4: the second level of a one lasts T_ONE. -/
theorem test_sendOne_hold : seen (exec .sendOne base) (fun t => (t.pin, (endPulse t).pin, (endPulse t).cnt)) =
    some (true, false, 4) := by decide

/-- WD4: an index of 12 is clamped; WD6: WDRF is cleared. -/
theorem test_wdtSetup_clamps : seen (exec .wdtSetup { base with arg := 12, wdrf := true })
    (fun t => (regRead t 0xC, regRead t 0xB)) = some (0x0019, 0x0002) := by decide

/-- SL1. -/
theorem test_sleep_zero : seen (exec .sleep { base with ticks := 7 }) (fun t => (t.ticks, regRead t 0xF)) =
    some (0, 0x0040) := by decide

/-- SL5: STATUS of a timed sleep. -/
theorem test_sleep_status : seen (exec .sleep { base with arg := 2 }) (regRead · 0xF) = some 0x0023 := by decide

/-- EV4: STATUS and IRQ of an event sleep. -/
theorem test_sleepPin_status : seen (exec .sleepPin { base with wdtIe := true, pcIf := true })
    (fun t => (regRead t 0xF, regRead t 0xB, t.savedWie)) = some (0x0064, 0x0005, true) := by decide

/-- DC3: 0x0011 is not BUILD. -/
theorem test_illegal_word : seen (step { base with host := [cmdWrite 0x0011] })
    (fun t => (regRead t 0xF, t.frame)) = some (0x00C0, ⟨0, 0, 0, 0, 0⟩) := by decide

/-- TX12: a write in a reset cycle is not accepted, and the pin of that cycle is still high. -/
theorem test_reset_during_frame : outputs { base with
      mode := .txFrame, phase := .sync, cnt := 3, pin := true, pol := true,
      pins := [⟨true, false, false⟩], host := [wr .temp 3] } =
    { rfPin := true, cpuHalt := false, analogEn := true, reqReady := false, rspRdata := 0 } := by decide

/-- P3: the exit of an event sleep restores WDT_IE. -/
theorem test_event_sleep_exit : seen (step { base with
      mode := .eSleep, halt := true, gie := true, pcIe := true, pcIf := true, savedWie := true })
    (fun t => (regRead t 0xB, t.mode)) = some (0x0003, .idle) := by decide

/-- 92_eei_decisions D22: with EVT_RESTORE_WDT_IE = 0 the enable would stay clear. -/
theorem test_event_sleep_exit_without_restore :
    (eSleepStepWith false true { base with mode := .eSleep, savedWie := true }).wdtIe = false := by decide

/-- P4: a held write stalls while busy, and a read is answered. -/
theorem test_stall_then_read :
    seen (step { base with mode := .txSym, phase := .sync, cnt := 2, host := [cmdWrite 6] })
      (fun t => (t.host.length, t.reqReady)) = some (1, false) ∧
    seen (step { base with mode := .txSym, phase := .sync, cnt := 2, pin := true, pol := true, host := [rd .status] })
      (fun t => (t.host.length, t.rspRdata)) = some (0, 0x0059) := by decide

/-! ## Witnesses: states that meet the hypotheses of the obligations -/

/-- A reset sample in a busy state. -/
def resetting : State := { base with mode := .tSleep, pins := [⟨true, true, true⟩] }

theorem witness_reset_sample : (pinSample resetting).rst = true := by decide

/-- A sync of a frame with two cycles left, a write presented. -/
def sending : State :=
  { base with mode := .txFrame, phase := .sync, cnt := 2, pin := true, pol := true, host := [wr .temp 3] }

theorem witness_StepRunsDecodedCommand :
    base.mode = .idle ∧ (pinSample { base with host := [cmdWrite 1] }).rst = false ∧
    [cmdWrite 1] = .request { we := true, addr := 0xA, data := 1 } :: [] ∧ decode 1 = some .build := by decide

theorem witness_PlacedTableWordRunsNext : 9 < 65536 ∧ decodeTableWord 16 9 = some .sleepPin := by decide

theorem witness_IllegalWord_reserved :
    acceptedWrite { base with host := [cmdWrite 0x0010] } = some { we := true, addr := 0xA, data := 0x0010 } ∧
    (0x0010 : Word).extractLsb' 4 12 ≠ 0 := by decide

theorem witness_IllegalWord_opcode :
    acceptedWrite { base with host := [cmdWrite 0x000A] } = some { we := true, addr := 0xA, data := 0x000A } ∧
    0xA ≤ ((0x000A : Word).extractLsb' 0 4).toNat := by decide

theorem witness_IllegalWord_sticky : ∃ t, step { base with cmdErr := true } = .next t ∧
    (pinSample { base with cmdErr := true }).rst = false ∧ ({ base with cmdErr := true } : State).cmdErr = true :=
  ⟨_, rfl, by decide, by decide⟩

theorem witness_AcceptanceRule : (pinSample sending).rst = false ∧ reqReadyO sending = false ∧
    reqReadyO { base with host := [wr .temp 3] } = true := by decide

theorem witness_StalledRequestHasNoEffect : reqReadyO sending = false ∧
    sending.host = .request { we := true, addr := 0x0, data := 3 } :: [] := by decide

theorem witness_ReadsHaveNoEffect :
    accepted { sending with host := [rd .status] } = some statusRead ∧ statusRead.we = false := by decide

theorem witness_OutputsOfACycle :
    (∀ r, accepted { base with host := [wr .temp 3] } = some r → r.we = true) ∧
    ∃ r, accepted { base with host := [rd .status] } = some r ∧ r.we = false := by
  refine ⟨fun r h => ?_, statusRead, by decide⟩
  have : some r = some { we := true, addr := 0x0, data := 3 } := h.symm.trans (by decide)
  cases this
  rfl

theorem witness_IdleCycleIsWakePhasesThenWrite :
    base.mode = .idle ∧ (pinSample base).rst = false ∧ acceptedWrite base = none ∧
    acceptedWrite { base with host := [wr .temp 3] } = some { we := true, addr := 0x0, data := 3 } := by decide

theorem witness_ReadBackAfterWrite :
    (∃ t, regWrite 0x8 41 base = .next t) ∧ (∃ t, regWrite 0x8 40 base = .next t) ∧ (∃ t, regWrite 0xB 0xFFFF base = .next t) ∧
    (∃ t, regWrite 0xF 1 base = .next t) ∧ (0x8 : RegAddr) ≠ 0xA ∧ (0xB : RegAddr) ≠ 0xA ∧ (0xF : RegAddr) ≠ 0xA :=
  ⟨⟨_, rfl⟩, ⟨_, rfl⟩, ⟨_, rfl⟩, ⟨_, rfl⟩, by decide, by decide, by decide⟩

theorem witness_SeiAndCliChangeOnlyGie :
    base.mode = .idle ∧ (pinSample { base with host := [.sei] }).rst = false ∧
    ({ base with host := [.sei] } : State).host = .sei :: [] ∧ ({ base with host := [.cli] } : State).host = .cli :: [] := by
  decide

theorem witness_WaitIdleEndsWhenIdle :
    (pinSample { sending with host := [.waitIdle] }).rst = false ∧
    ({ sending with host := [.waitIdle] } : State).host = .waitIdle :: [] ∧
    ({ base with host := [.waitIdle] } : State).mode = .idle := by decide

theorem witness_BuildProperties :
    (∃ t v, exec .build (reading 0xFFFF 0 true 0 0) = .next t ∧ exec .build (reading 0x0FFF 0 true 0 0) = .next v) ∧
    (reading 0xFFFF 0 true 0 0).temp = 0xFFFF ∧
    reading 0x0FFF 0 true 0 0 = { reading 0xFFFF 0 true 0 0 with temp := 0x0FFF } :=
  ⟨⟨_, _, rfl, rfl⟩, rfl, rfl⟩

theorem witness_CksumAfterBuildIsIdentity : ∃ t, exec .build (reading 215 450 true 0x21 0) = .next t := ⟨_, rfl⟩

theorem witness_ChecksumLaws : (nibblesOf 0x21 0x43 0x65 0x87).Perm (nibblesOf 0x12 0x34 0x56 0x78) := by decide

theorem witness_FrameBitsAreMsbFirst : 0 < 40 ∧ 39 < 40 := by decide

theorem witness_TransmitterStep_running :
    sending.mode.isTx ∧ (pinSample sending).rst = false ∧ 1 < sending.cnt.toNat := by decide

theorem witness_TransmitterStep_lead :
    let s := { sending with phase := .lead, cnt := 1 }
    s.mode.isTx ∧ (pinSample s).rst = false ∧ s.cnt = 1 ∧ s.phase = .lead := by decide

theorem witness_TransmitterStep_pulse :
    let s := { sending with phase := .pulse, cnt := 1 }
    s.mode.isTx ∧ (pinSample s).rst = false ∧ s.cnt = 1 ∧ s.phase = .pulse := by decide

theorem witness_TransmitterStep_symbol :
    let s := { sending with mode := .txSym, cnt := 1 }
    s.mode.isTx ∧ (pinSample s).rst = false ∧ s.cnt = 1 ∧ s.phase = .sync ∧ s.mode = .txSym := by decide

theorem witness_TransmitterStep_firstBit :
    let s := { sending with cnt := 1 }
    s.mode.isTx ∧ (pinSample s).rst = false ∧ s.cnt = 1 ∧ s.mode = .txFrame ∧ s.phase = .sync ∧ 0 < s.flen.toNat := by
  decide

theorem witness_TransmitterStep_lastBitOfFirstRepeat :
    let s := { sending with phase := .hold, cnt := 1, bitIdx := 35 }
    (pinSample s).rst = false ∧ s.cnt = 1 ∧ s.mode = .txFrame ∧ s.phase = .hold ∧
    s.flen.toNat ≤ s.bitIdx.toNat + 1 ∧ s.rep.toNat + 1 < 3 := by decide

theorem witness_TransmitterStep_lastBitOfFrame :
    let s := { sending with phase := .hold, cnt := 1, bitIdx := 35, rep := 2 }
    (pinSample s).rst = false ∧ s.cnt = 1 ∧ s.mode = .txFrame ∧ s.phase = .hold ∧
    s.flen.toNat ≤ s.bitIdx.toNat + 1 ∧ 3 ≤ s.rep.toNat + 1 := by decide

theorem witness_TransmissionIsUndisturbed :
    let u := { sending with host := [], wdtIf := true, gie := true, wdtIe := true, pins := [⟨false, false, true⟩] }
    sending.mode.isTx ∧ SameTransmission sending u ∧ (pinSample sending).rst = false ∧ (pinSample u).rst = false ∧
    (∃ t, step sending = .next t) ∧ ∃ v, step u = .next v :=
  ⟨by decide, by simp [SameTransmission, sending], by decide, by decide, ⟨_, rfl⟩, ⟨_, rfl⟩⟩

theorem witness_SendSyncLastsTSync :
    let s := { base with host := [cmd .sendSync], pins := [⟨false, false, true⟩] }
    s.mode = .idle ∧ s.host = cmd .sendSync :: [] ∧ NoReset (s.params.tSync + 1) s := by decide

theorem witness_SendBitLastsDummyPlusHold_zero :
    let s := { base with host := [cmd .sendZero] }
    s.mode = .idle ∧ s.host = cmd (if false then .sendOne else .sendZero) :: [] ∧
    NoReset (s.params.tDummy + (if false then s.params.tOne else s.params.tZero) + 1) s := by decide

theorem witness_SendBitLastsDummyPlusHold_one :
    let s := { base with host := [cmd .sendOne] }
    s.mode = .idle ∧ s.host = cmd (if true then .sendOne else .sendZero) :: [] ∧
    NoReset (s.params.tDummy + (if true then s.params.tOne else s.params.tZero) + 1) s := by decide

/-- TX7 and TX8: the busy times 25 and 64. -/
theorem witness_SendFrameDrivesStatedWaveform :
    let s := { base with flen := 3, frame := ⟨0xA0, 0, 0, 0, 0⟩, host := [cmd .sendFrame] }
    s.mode = .idle ∧ s.host = cmd .sendFrame :: [] ∧ frameBusy s.params s.frame 3 = 64 ∧
    frameBusy s.params s.frame 0 = 25 ∧ NoReset 65 s := by decide

theorem witness_WdtSetupKeepsSameCycleTick :
    let s := { base with wdtEn := true, wdtCnt := 3, host := [cmdWrite 7] }
    acceptedWrite s = some { we := true, addr := 0xA, data := 0x7 } ∧ wdtTick s = true := by decide

theorem witness_SleepStartsUnlessZero : base.arg = 0 ∧ ({ base with arg := 1 } : State).arg ≠ 0 := by decide

theorem witness_SleepPinLosesSameCycleEdge :
    let s := { base with host := [cmdWrite 9], pins := [⟨false, false, true⟩] }
    acceptedWrite s = some { we := true, addr := 0xA, data := 0x9 } ∧ pcEdge s (pinSample s).pcint = true := by decide

/-- A timed sleep of three ticks in its first busy cycle, one cycle before a tick. -/
def sleeping : State :=
  { base with mode := .tSleep, halt := true, analogEn := false, arg := 3, gie := true, wdtIe := true,
              wdtEn := true, wdtCnt := 3 }

theorem witness_TimedSleepStep_window :
    let s := { sleeping with halt := false }
    s.mode = .tSleep ∧ (pinSample s).rst = false ∧ s.halt = false := by decide

theorem witness_TimedSleepStep_halted :
    sleeping.mode = .tSleep ∧ (pinSample sleeping).rst = false ∧ sleeping.halt = true ∧
    ¬ (sleeping.gie = true ∧
      (sleeping.wdtIe = true ∧ sleeping.wdtIf = true ∨ sleeping.pcIe = true ∧ sleeping.pcIf = true)) := by decide

theorem witness_TimedSleepStep_wake :
    let s := { sleeping with wdtIf := true }
    s.mode = .tSleep ∧ (pinSample s).rst = false ∧ s.halt = true ∧ s.gie = true ∧
    (s.wdtIe = true ∧ s.wdtIf = true ∨ s.pcIe = true ∧ s.pcIf = true) ∧
    s.ticks.toNat + 1 < s.arg.toNat := by decide

theorem witness_TimedSleepStep_lastWake :
    let s := { sleeping with wdtIf := true, ticks := 2 }
    s.mode = .tSleep ∧ (pinSample s).rst = false ∧ s.halt = true ∧ s.gie = true ∧
    (s.wdtIe = true ∧ s.wdtIf = true ∨ s.pcIe = true ∧ s.pcIf = true) ∧
    s.arg.toNat ≤ s.ticks.toNat + 1 := by decide

theorem witness_HaltEntriesAreCounted : StateInv sleeping ∧ sleeping.mode = .tSleep ∧
    (pinSample sleeping).rst = false ∧ ∃ t, step sleeping = .next t :=
  ⟨⟨by decide, by decide⟩, by decide, by decide, _, rfl⟩

/-- SL3: ten busy cycles, by P2's phase of the watchdog. -/
theorem witness_TimedSleepLastsStatedCycles :
    sleeping.mode = .tSleep ∧ sleeping.halt = true ∧ sleeping.analogEn = false ∧ sleeping.ticks = 0 ∧
    1 ≤ sleeping.arg.toNat ∧ sleeping.gie = true ∧ sleeping.wdtIe = true ∧ sleeping.pcIe = false ∧
    sleeping.wdtEn = true ∧ sleeping.wdtIdx.toNat ≤ 9 ∧
    sleeping.wdtCnt.toNat < period sleeping.params sleeping.wdtIdx ∧
    (sleeping.wdtIf = true → sleeping.wdtCnt = 0) ∧
    10 = (sleeping.arg.toNat - 1) * period sleeping.params sleeping.wdtIdx +
      (if sleeping.wdtIf then 1 else period sleeping.params sleeping.wdtIdx - sleeping.wdtCnt.toNat + 1) ∧
    NoReset 10 sleeping := by decide

/-- SL6: a tick in the accepting cycle is the first one counted, nine busy cycles. -/
theorem witness_TimedSleepLastsStatedCycles_pending :
    let s := { sleeping with wdtCnt := 0, wdtIf := true }
    s.wdtCnt.toNat < period s.params s.wdtIdx ∧ (s.wdtIf = true → s.wdtCnt = 0) ∧
    9 = (s.arg.toNat - 1) * period s.params s.wdtIdx +
      (if s.wdtIf then 1 else period s.params s.wdtIdx - s.wdtCnt.toNat + 1) ∧ NoReset 9 s := by decide

/-- SL5, and the other ways a sleep cannot be woken: each enable clear, the watchdog stopped, the pin steady. -/
theorem witness_UnwakeableSleepHangs :
    sleeping.mode = .tSleep ∧ NoReset 100 sleeping ∧
    Unwakeable 100 { sleeping with gie := false } ∧ Unwakeable 100 { sleeping with wdtIe := false } ∧
    Unwakeable 100 { sleeping with wdtEn := false } ∧
    Unwakeable 100 { sleeping with wdtIe := false, pcIe := true, pins := [⟨false, false, false⟩] } := by decide

/-- The flags pending in a wake window wake nothing after it. -/
theorem witness_UnwakeableSleepHangs_window :
    Unwakeable 100 { sleeping with halt := false, wdtEn := false, wdtIf := true, pcIe := true, pcIf := true } := by decide

/-- An event sleep as P3 enters it. -/
def eventSleeping : State := { base with mode := .eSleep, halt := true, gie := true, pcIe := true, savedWie := true }

theorem witness_EventSleepStep_asleep :
    eventSleeping.mode = .eSleep ∧ (pinSample eventSleeping).rst = false ∧
    ¬ (eventSleeping.gie = true ∧ eventSleeping.pcIe = true ∧ eventSleeping.pcIf = true) := by decide

/-- A pin change pending: the delivery of EventSleepStep, and the first clause of EventSleepEndsAfterPinChange. -/
theorem witness_EventSleepStep_delivery :
    let s := { eventSleeping with pcIf := true }
    InEventSleep s ∧ (pinSample s).rst = false ∧ s.pcIf = true := by decide

/-- EV4: the pin never changes. -/
theorem witness_EventSleepEndsAfterPinChange_steady :
    InEventSleep eventSleeping ∧ eventSleeping.pcIf = false ∧ SteadyPin 100 eventSleeping := by decide

/-- EV1, with one steady sample before the change, and a reset in its place. -/
theorem witness_EventSleepEndsAfterPinChange :
    let quiet : List PinSample := [⟨false, false, false⟩]
    let e : PinSample := ⟨false, false, true⟩
    let s := { eventSleeping with pins := quiet ++ e :: e :: [] }
    let r := { eventSleeping with pins := quiet ++ (⟨true, false, true⟩ : PinSample) :: [] }
    InEventSleep s ∧ s.pcIf = false ∧ s.pins = quiet ++ e :: e :: [] ∧
    (∀ p ∈ quiet, p.rst = false ∧ p.pcint = s.pcLast) ∧ e.rst = false ∧ e.pcint = !s.pcLast ∧
    InEventSleep r ∧ r.pcIf = false ∧ r.pins = quiet ++ ⟨true, false, true⟩ :: [] := by decide

theorem witness_step_without_reset : (pinSample sleeping).rst = false ∧ ∃ t, step sleeping = .next t :=
  ⟨by decide, _, rfl⟩

theorem witness_PendingFlagsRule_sleepPin :
    let s := { base with host := [cmdWrite 9], pcIf := true }
    (pinSample s).rst = false ∧ acceptedWrite s = some { we := true, addr := 0xA, data := 0x9 } ∧
    ∃ t, step s = .next t := ⟨by decide, by decide, _, rfl⟩

theorem witness_WatchdogCounterRule_wdtSetup :
    let s := { base with host := [cmdWrite 7], wdtCnt := 3, wdtEn := true }
    (pinSample s).rst = false ∧ acceptedWrite s = some { we := true, addr := 0xA, data := 0x7 } ∧
    ∃ t, step s = .next t := ⟨by decide, by decide, _, rfl⟩

theorem witness_PeriodDoublesAndFits : (0 : BitVec 4).toNat ≤ 9 ∧ (9 : BitVec 4).toNat ≤ 9 := by decide

/-- The host polls STATUS and no WDT_SETUP is accepted. -/
theorem witness_WatchdogIsPeriodic :
    let s := { base with wdtEn := true, wdtCnt := 3, host := [rd .status] }
    NoReset 2 s ∧ s.wdtEn = true ∧ s.wdtIdx.toNat ≤ 9 ∧ s.wdtCnt.toNat < period s.params s.wdtIdx ∧
    ∀ j < 2, ∀ u, runCycles j s = .next u → acceptedWrite u ≠ some { we := true, addr := 0xA, data := 0x7 } := by
  refine ⟨by decide, by decide, by decide, by decide, fun j hj u hu => ?_⟩
  obtain rfl | rfl : j = 0 ∨ j = 1 := by omega
  all_goals cases hu; decide

theorem witness_DeliveryOutsideSleepOnlyClearsFlags :
    let s := { sending with wdtIf := true, wdtIe := true, gie := true }
    s.mode ≠ .tSleep ∧ s.mode ≠ .eSleep ∧ (∃ t, step s = .next t) ∧
    ∃ u, step { s with wdtIf := false, pcIf := true } = .next u :=
  ⟨by decide, by decide, ⟨_, rfl⟩, _, rfl⟩

theorem witness_OnlyWdtSetupConfiguresWatchdog :
    let s := { base with host := [cmdWrite 7], arg := 4 }
    (pinSample s).rst = false ∧ ∃ t, step s = .next t ∧ (t.wdtEn ≠ s.wdtEn ∨ t.wdtIdx ≠ s.wdtIdx) :=
  ⟨by decide, _, rfl, by decide⟩

theorem witness_OnlyTransmitterMovesPin :
    let s := { base with host := [cmdWrite 4] }
    (pinSample s).rst = false ∧ ∃ t, step s = .next t ∧ (t.pin ≠ s.pin ∨ t.pol ≠ s.pol) :=
  ⟨by decide, _, rfl, by decide⟩

theorem witness_OperationsDoNotOverlap : (∃ t, step sending = .next t) ∧ sending.mode ≠ .idle :=
  ⟨⟨_, rfl⟩, by decide⟩

theorem witness_BusyBlockKeepsItsOperands :
    (pinSample sending).rst = false ∧ (∃ t, step sending = .next t) ∧ sending.mode ≠ .idle :=
  ⟨by decide, ⟨_, rfl⟩, by decide⟩

theorem witness_PowerStates_idle : StateInv base ∧ base.mode = .idle := ⟨⟨by decide, by decide⟩, rfl⟩

theorem witness_PowerStates_eSleep :
    StateInv { base with mode := .eSleep, halt := true, gie := true, pcIe := true } :=
  ⟨by decide, by decide⟩

theorem witness_ParametersNeverChange : ∃ t, step resetting = .next t := ⟨_, rfl⟩

theorem witness_StepKeepsInvariant : StateInv sending ∧ ∃ t, step sending = .next t :=
  ⟨⟨by decide, by decide⟩, _, rfl⟩

theorem witness_ReachedStatesMeetR41 : (pinSample resetting).rst = true ∧ ∃ t, runCycles (1 + 1) resetting = .next t :=
  ⟨by decide, _, rfl⟩

/-- RG10: two register requests; the run ends in cycle 2 (70_reset_and_hazards R235). -/
theorem witness_RunEnds : RunEnds { base with host := [wr .arg 5, rd .arg] }
    { cycle := 2, state := { base with arg := 5, reqReady := true, rspRdata := 5 },
      outputs := { rfPin := false, cpuHalt := false, analogEn := true, reqReady := false, rspRdata := 0 } } :=
  ⟨2, by decide⟩

/-- A write withdrawn from a busy block is never accepted, and that run has no end (93_implementation_defined I11). -/
theorem test_withdrawn_offer_has_no_end :
    endWithin 3 { base with mode := .txSym, phase := .hold, cnt := 1, host := [.offer { we := true, addr := 9, data := 5 }] } =
      none ∧
    (endWithin 3 { base with mode := .txSym, phase := .hold, cnt := 1, host := [wr .arg 5] }).map (·.cycle) = some 2 := by
  decide

theorem witness_RunIsDetermined : SameS base { base with reqReady := true, rspRdata := 7 } := rfl

end Sys2Proof.Machine.Tests
end

section
/-! The implementation parameters (00_scope R5, R6) are outside the record S: every operation of a cycle keeps them. -/

namespace Sys2Proof.Machine

variable {s t : State}

@[simp] theorem engineStep_params (woken dP : Bool) (s : State) : (engineStep woken dP s).params = s.params := by
  obtain ⟨_, _, _, _, _, _, _, _, _, _, _, _, _, _, h⟩ := engineStep_frame woken dP s
  rw [h]

@[simp] theorem cycleBeforeWrite_params (s : State) : (cycleBeforeWrite s).params = s.params := by
  simp [cycleBeforeWrite]

@[simp] theorem writeReg_params (s : State) (v : Word) (r : Reg) : (writeReg s v r).params = s.params := by
  cases r <;> rfl

/-- The effect of a command at acceptance keeps the parameters (40_dispatch R101). -/
theorem exec_params {i : Instr} (h : exec i s = .next t) : t.params = s.params := by
  cases i with
  | sleep =>
    cases h
    split <;> rfl
  | _ => cases h; rfl

theorem execute_params {v : Word} (h : execute v s = .next t) : t.params = s.params := by
  cases hd : decode v with
  | some i => exact exec_params (execute_of_decode hd ▸ h)
  | none =>
    rw [execute_of_illegal hd] at h
    cases h
    exact raiseCmdError_params s

/-- An accepted write keeps the parameters, whether it executes a command or writes a register (20_memory R63). -/
theorem regWrite_params {a : RegAddr} {v : Word} (h : regWrite a v s = .next t) : t.params = s.params := by
  by_cases ha : a = 0xA
  · subst ha
    exact execute_params (regWrite_cmd v ▸ h)
  · rw [regWrite_of_ne_cmd v ha] at h
    cases h
    exact writeReg_params s v _

/-- Settles O56: each kind of cycle (reset, no write, accepted write) is made of operations that keep the parameters. -/
theorem parametersNeverChange : Obligations.ParametersNeverChange := by
  intro s t h
  rcases step_cases s with ⟨-, hs⟩ | ⟨-, -, hs⟩ | ⟨r, -, -, -, hs⟩ <;> rw [hs] at h
  · cases h
    simp
  · cases h
    simp
  · simpa using regWrite_params h

end Sys2Proof.Machine
end

section
/-!
The invariant of a reached state (10_state R41; R32, R33; 42_transmitter R155), mode by mode, and that every operation of a
cycle keeps it.
-/

namespace Sys2Proof.Machine

variable {s t : State}

/-- No segment: what R41 item 1 asks of an idle block, and R32, R33 and 42_transmitter R155 of a sleeping one. -/
def AtRest (s : State) : Prop := s.pin = s.pol ∧ s.phase = .none ∧ s.cnt = 0

/-- Neither halted nor powered down, as R41 items 4 and 5 have it outside the sleeps, and every range kept. -/
def AwakeInRange (s : State) : Prop := s.halt = false ∧ s.analogEn = true ∧ InvRanges s

/-! ### The invariant in each mode -/

/-- R41 items 4 to 6 outside the sleeps. -/
theorem awakeInRange_iff (ht : s.mode ≠ .tSleep) (he : s.mode ≠ .eSleep) :
    AwakeInRange s ↔ InvHalt s ∧ InvSleep s ∧ InvRanges s := by
  simp only [InvHalt, InvSleep, AwakeInRange, ht, he]
  simp

/-- Where there is no transmission, the invariants of the transmitter say that the block is at rest. -/
theorem atRest_iff (hm : ¬ s.mode.isTx) : AtRest s ↔ InvIdle s ∧ InvTransmit s ∧ InvBit s ∧ InvLevel s := by
  have hf : s.mode ≠ .txFrame := fun h => hm (.inr h)
  constructor
  · rintro ⟨hl, hp, hc⟩
    exact ⟨fun _ => ⟨hl, hp, hc⟩,
      ⟨fun h => absurd h hm, fun h => absurd (.inl h) hm, fun h => absurd h hf⟩,
      ⟨fun h => absurd h hf, fun h => absurd h hf⟩, fun _ => ⟨hp, hc⟩, by simp [hl, hp]⟩
  · rintro ⟨-, -, -, hq, hl⟩
    obtain ⟨hp, hc⟩ := hq hm
    exact ⟨hl.mpr (by simp [hp]), hp, hc⟩

theorem stateInv_iff_of_idle (hm : s.mode = .idle) : StateInv s ↔ AtRest s ∧ AwakeInRange s := by
  rw [atRest_iff (by simp [Mode.isTx, hm]), awakeInRange_iff (by simp [hm]) (by simp [hm])]
  exact ⟨fun ⟨⟨hi, ht, hb, hh, ha, hr⟩, hl⟩ => ⟨⟨hi, ht, hb, hl⟩, hh, ha, hr⟩,
    fun ⟨⟨hi, ht, hb, hl⟩, hh, ha, hr⟩ => ⟨⟨hi, ht, hb, hh, ha, hr⟩, hl⟩⟩

theorem stateInv_iff_of_isTx (hm : s.mode.isTx) : StateInv s ↔
    InvTransmit s ∧ InvBit s ∧ (s.pin = s.pol ↔ s.phase ≠ .pulse) ∧ AwakeInRange s := by
  have hne : s.mode ≠ .idle ∧ s.mode ≠ .tSleep ∧ s.mode ≠ .eSleep := by rcases hm with h | h <;> simp [h]
  obtain ⟨hi, hs, he⟩ := hne
  rw [awakeInRange_iff hs he]
  exact ⟨fun ⟨⟨_, ht, hb, hh, ha, hr⟩, _, hl⟩ => ⟨ht, hb, hl, hh, ha, hr⟩,
    fun ⟨ht, hb, hl, hh, ha, hr⟩ => ⟨⟨fun h => absurd h hi, ht, hb, hh, ha, hr⟩, fun h => absurd hm h, hl⟩⟩

theorem stateInv_iff_of_tSleep (hm : s.mode = .tSleep) : StateInv s ↔
    AtRest s ∧ s.analogEn = false ∧ s.ticks.toNat < s.arg.toNat ∧ InvRanges s := by
  rw [atRest_iff (by simp [Mode.isTx, hm])]
  constructor
  · rintro ⟨⟨hi, ht, hb, -, ha, hr⟩, hl⟩
    exact ⟨⟨hi, ht, hb, hl⟩, ha.1.mpr hm, (ha.2 hm).2, hr⟩
  · rintro ⟨⟨hi, ht, hb, hl⟩, ha, hk, hr⟩
    exact ⟨⟨hi, ht, hb, by simp [InvHalt, hm], ⟨by simp [ha, hm], fun _ => ⟨by omega, hk⟩⟩, hr⟩, hl⟩

theorem stateInv_iff_of_eSleep (hm : s.mode = .eSleep) : StateInv s ↔
    AtRest s ∧ InEventSleep s ∧ s.analogEn = true ∧ InvRanges s := by
  rw [atRest_iff (by simp [Mode.isTx, hm])]
  constructor
  · rintro ⟨⟨hi, ht, hb, hh, ha, hr⟩, hl⟩
    exact ⟨⟨hi, ht, hb, hl⟩, ⟨hm, hh.2 hm⟩, by simpa [hm] using ha.1, hr⟩
  · rintro ⟨⟨hi, ht, hb, hl⟩, ⟨-, he⟩, ha, hr⟩
    exact ⟨⟨hi, ht, hb, ⟨fun _ => .inr hm, fun _ => he⟩, by simp [InvSleep, hm, ha], hr⟩, hl⟩

/-! ### Reset, the port and phases 1 to 4 -/

/-- A reset establishes the invariant, whatever the state before and the inputs it loads (70_reset_and_hazards R220). -/
theorem stateInv_applyReset (c v : Bool) (s : State) : StateInv (applyReset c v s) :=
  Iff.mpr (stateInv_iff_of_idle (applyReset_mode s c v))
    ⟨⟨rfl, rfl, rfl⟩, rfl, rfl, by simp [InvRanges, Config.flenMax]⟩

theorem stateInv_takePort : StateInv (takePort s) ↔ StateInv s := Iff.rfl

/-- The watchdog's step keeps its counter below the period, and at 0 while stopped (60_exceptions R201). -/
theorem wdtCntAfter_range (hon : s.wdtEn = true → s.wdtCnt.toNat < period s.params s.wdtIdx)
    (hoff : s.wdtEn = false → s.wdtCnt = 0) :
    (s.wdtEn = true → (wdtCntAfter s).toNat < period s.params s.wdtIdx) ∧ (s.wdtEn = false → wdtCntAfter s = 0) := by
  have hp := two_le_period s.params s.wdtIdx
  cases he : s.wdtEn with
  | false => simpa [wdtCntAfter, he] using hoff he
  | true =>
    have hlt := hon he
    by_cases hk : s.wdtCnt.toNat = period s.params s.wdtIdx - 1
    · simp [wdtCntAfter, wdtTick, he, hk]
      omega
    · have hadd : (s.wdtCnt + 1).toNat ≤ s.wdtCnt.toNat + 1 := Nat.mod_le _ _
      have hnext : wdtCntAfter s = s.wdtCnt + 1 := by simp [wdtCntAfter, wdtTick, he, hk]
      rw [hnext]
      exact ⟨fun _ => by omega, nofun⟩

/-- Phases 1 to 4 write one field the invariant speaks of, the watchdog's counter (10_state R40). -/
theorem stateInv_wakePhases (v : Bool) (h : StateInv s) : StateInv (wakePhases v s) := by
  obtain ⟨⟨hi, ht, hb, hh, ha, hidx, hlen, hon, hoff⟩, hl⟩ := h
  exact ⟨⟨hi, ht, hb, hh, ha, hidx, hlen, wdtCntAfter_range hon hoff⟩, hl⟩

/-! ### The transmitter -/

/-- A sync may start in either transmission; in a frame, before bit 0 of a repeat (42_transmitter R143). -/
theorem stateInv_startSync (hm : s.mode.isTx) (hf : s.mode = .txFrame → s.rep.toNat < 3 ∧ s.bitIdx = 0)
    (ha : AwakeInRange s) : StateInv (startSync s) := by
  have hc : 1 ≤ s.params.tSync := by have := s.params.tOne_lt_tSync; omega
  exact Iff.mpr (stateInv_iff_of_isTx hm) ⟨⟨fun _ => by simpa using hc, by simp, fun h => (hf h).1⟩,
    ⟨by simp, fun h _ => (hf h).2⟩, by simp, ha⟩

/-- A bit may start in either transmission; in a frame, one that the frame has (42_transmitter R144). -/
theorem stateInv_startBit (b : Bool) (hm : s.mode.isTx)
    (hf : s.mode = .txFrame → s.rep.toNat < 3 ∧ s.bitIdx.toNat < s.flen.toNat)
    (ha : AwakeInRange s) : StateInv (startBit b s) :=
  Iff.mpr (stateInv_iff_of_isTx hm) ⟨⟨fun _ => by simpa using s.params.one_le_tDummy, by simp, fun h => (hf h).1⟩,
    ⟨fun h _ => (hf h).2, by simp⟩, by simp, ha⟩

/-- The second level of a bit follows its first (42_transmitter R146). -/
theorem stateInv_endPulse (hm : s.mode.isTx) (hp : s.phase = .pulse) (h : StateInv s) : StateInv (endPulse s) := by
  obtain ⟨⟨-, -, hrep⟩, ⟨hbit, -⟩, -, ha⟩ := (stateInv_iff_of_isTx hm).mp h
  exact Iff.mpr (stateInv_iff_of_isTx hm) ⟨⟨fun _ => by simpa using (holdCycles_bounds s.params s.sym).1, by simp, hrep⟩,
    ⟨fun hf _ => hbit hf (.inl hp), by simp⟩, by simp, ha⟩

/-- A symbol may end with the pin at the tracked polarity, so not in the first level of a bit (42_transmitter R147). -/
theorem stateInv_endSymbol (hp : s.pin = s.pol) (ha : AwakeInRange s) : StateInv (endSymbol s) :=
  Iff.mpr (stateInv_iff_of_idle (endSymbol_mode s)) ⟨⟨hp, rfl, rfl⟩, ha⟩

/-- After the last bit: the next repeat, or the end of the frame (42_transmitter R149). -/
theorem stateInv_endRepeat (hm : s.mode = .txFrame) (ha : AwakeInRange s) : StateInv (endRepeat s) := by
  rcases endRepeat_cases s with ⟨hrep, h⟩ | ⟨-, h⟩ <;> rw [h]
  · have hadd : (s.rep + 1).toNat ≤ s.rep.toNat + 1 := Nat.mod_le _ _
    exact stateInv_startSync (.inr hm) (fun _ => ⟨by simpa using Nat.lt_of_le_of_lt hadd hrep, rfl⟩) ha
  · exact Iff.mpr (stateInv_iff_of_idle (endFrame_mode s)) ⟨⟨rfl, rfl, rfl⟩, ha⟩

/-- After a sync or a bit of a frame: the next bit, if the frame has it (42_transmitter R148). -/
theorem stateInv_nextInFrame (hm : s.mode = .txFrame) (hrep : s.rep.toNat < 3) (ha : AwakeInRange s) :
    StateInv (nextInFrame s) := by
  rcases nextInFrame_cases s with ⟨hlt, h⟩ | ⟨-, h⟩ <;> rw [h]
  · have hbit : (BitVec.ofNat 6 (nextBitIdx s)).toNat ≤ nextBitIdx s := Nat.mod_le _ _
    exact stateInv_startBit _ (.inr hm) (fun _ => ⟨hrep, Nat.lt_of_le_of_lt hbit hlt⟩) ha
  · exact stateInv_endRepeat hm ha

/-- Inside a segment only the count changes, and it stays above 0 (42_transmitter R145). -/
theorem stateInv_countDown (hm : s.mode.isTx) (hc : 1 < s.cnt.toNat) (h : StateInv s) :
    StateInv { s with cnt := s.cnt - 1 } := by
  obtain ⟨⟨hseg, hsym, hrep⟩, hbit, hl, ha⟩ := (stateInv_iff_of_isTx hm).mp h
  have hpos : 1 ≤ (s.cnt - 1).toNat := by bv_omega
  exact Iff.mpr (stateInv_iff_of_isTx hm) ⟨⟨fun _ => ⟨(hseg hm).1, hpos⟩, hsym, hrep⟩, hbit, hl, ha⟩

theorem stateInv_txStep (hm : s.mode.isTx) (h : StateInv s) : StateInv (txStep s) := by
  obtain ⟨⟨hseg, hsym, hrep⟩, ⟨-, hbit⟩, hl, ha⟩ := (stateInv_iff_of_isTx hm).mp h
  rcases txStep_cases s with ⟨hc, ht⟩ | ⟨-, ⟨hp, ht⟩ | ⟨hp, ht⟩ | ⟨hp, ht⟩ | ⟨hp, -, ht⟩ | ⟨-, hne, ht⟩⟩ <;> rw [ht]
  · exact stateInv_countDown hm hc h
  · exact absurd hp (hseg hm).1
  · exact stateInv_startSync hm (fun hf => ⟨hrep hf, hbit hf (.inl hp)⟩) ha
  · exact stateInv_endPulse hm hp h
  · exact stateInv_endSymbol (hl.mpr (by rcases hp with hp | hp <;> simp [hp])) ha
  · have hf : s.mode = .txFrame := hm.resolve_left hne
    exact stateInv_nextInFrame hf (hrep hf) ha

/-! ### The sleeps and the engine -/

theorem stateInv_tSleepStep (woken : Bool) (hm : s.mode = .tSleep) (h : StateInv s) :
    StateInv (tSleepStep woken s) := by
  obtain ⟨hrest, ha, hk, hr⟩ := (stateInv_iff_of_tSleep hm).mp h
  rcases tSleepStep_cases woken s with ⟨-, ht⟩ | ⟨-, -, ht⟩ | ⟨-, -, hlt, ht⟩ | ⟨-, -, -, ht⟩ <;> rw [ht]
  · exact Iff.mpr (stateInv_iff_of_tSleep hm) ⟨hrest, ha, hk, hr⟩
  · exact h
  · have hadd : (s.ticks + 1).toNat ≤ s.ticks.toNat + 1 := Nat.mod_le _ _
    exact Iff.mpr (stateInv_iff_of_tSleep hm) ⟨hrest, ha, Nat.lt_of_le_of_lt hadd hlt, hr⟩
  · exact Iff.mpr (stateInv_iff_of_idle rfl) ⟨hrest, rfl, rfl, hr⟩

theorem stateInv_eSleepStep (dP : Bool) (hm : s.mode = .eSleep) (h : StateInv s) : StateInv (eSleepStep dP s) := by
  obtain ⟨hrest, -, ha, hr⟩ := (stateInv_iff_of_eSleep hm).mp h
  rcases eSleepStep_cases dP s with ⟨-, ht⟩ | ⟨-, ht⟩ <;> rw [ht]
  · exact h
  · exact Iff.mpr (stateInv_iff_of_idle rfl) ⟨hrest, rfl, ha, hr⟩

/-- Phase 5 of a cycle, whatever is delivered in it (10_state R40). -/
theorem stateInv_engineStep (woken dP : Bool) (h : StateInv s) : StateInv (engineStep woken dP s) := by
  cases hm : s.mode with
  | idle => exact (engineStep_idle woken dP hm).symm ▸ h
  | txSym => simpa only [engineStep, hm] using stateInv_txStep (.inl hm) h
  | txFrame => simpa only [engineStep, hm] using stateInv_txStep (.inr hm) h
  | tSleep => simpa only [engineStep, hm] using stateInv_tSleepStep woken hm h
  | eSleep => simpa only [engineStep, hm] using stateInv_eSleepStep dP hm h

theorem stateInv_cycleBeforeWrite (h : StateInv s) : StateInv (cycleBeforeWrite s) :=
  stateInv_engineStep _ _ (stateInv_wakePhases _ (stateInv_takePort.mpr h))

/-! ### The accepted write -/

/-- Of what a write to a data register changes, an idle block's invariant speaks of FLEN only (20_memory R63, R72). -/
theorem stateInv_writeReg (v : Word) (r : Reg) (hm : s.mode = .idle) (h : StateInv s) :
    StateInv (writeReg s v r) := by
  obtain ⟨hrest, hh, ha, hidx, hlen, hw⟩ := (stateInv_iff_of_idle hm).mp h
  have hlen' : (clampFlen v).toNat ≤ Config.flenMax := by simp [Config.flenMax]
  cases r with
  | flen => exact Iff.mpr (stateInv_iff_of_idle hm) ⟨hrest, hh, ha, hidx, hlen', hw⟩
  | _ => exact Iff.mpr (stateInv_iff_of_idle hm) ⟨hrest, hh, ha, hidx, hlen, hw⟩

theorem stateInv_execBuild (hm : s.mode = .idle) (h : StateInv s) (he : exec .build s = .next t) : StateInv t := by
  obtain ⟨hrest, hh, ha, hidx, -, hw⟩ := (stateInv_iff_of_idle hm).mp h
  cases he
  exact Iff.mpr (stateInv_iff_of_idle hm) ⟨hrest, hh, ha, hidx, by simp [Config.flenMax, Config.flenBuild], hw⟩

/-- WDT_SETUP restarts the count below any period (43_scheduler R171). -/
theorem stateInv_execWdtSetup (hm : s.mode = .idle) (h : StateInv s) (he : exec .wdtSetup s = .next t) :
    StateInv t := by
  obtain ⟨hrest, hh, ha, -, hlen, -⟩ := (stateInv_iff_of_idle hm).mp h
  have hp := two_le_period s.params (clampWdtIdx s.arg)
  cases he
  exact Iff.mpr (stateInv_iff_of_idle hm)
    ⟨hrest, hh, ha, by simp [Config.wdtIdxMax], hlen, fun _ => Nat.lt_of_lt_of_le Nat.two_pos hp, fun _ => rfl⟩

/-- SLEEP with ARG = 0 starts no sleep, and any other starts one with no tick counted (43_scheduler R174). -/
theorem stateInv_execSleep (hm : s.mode = .idle) (h : StateInv s) (he : exec .sleep s = .next t) : StateInv t := by
  obtain ⟨hrest, hh, ha, hr⟩ := (stateInv_iff_of_idle hm).mp h
  cases he
  split
  · exact Iff.mpr (stateInv_iff_of_idle hm) ⟨hrest, hh, ha, hr⟩
  · next harg =>
    have hpos : 0 < s.arg.toNat := by bv_omega
    exact Iff.mpr (stateInv_iff_of_tSleep rfl) ⟨hrest, rfl, hpos, hr⟩

/-- The effect of a command on an idle block (40_dispatch R101). -/
theorem stateInv_exec {i : Instr} (hm : s.mode = .idle) (h : StateInv s) (he : exec i s = .next t) : StateInv t := by
  obtain ⟨hrest, ha⟩ := (stateInv_iff_of_idle hm).mp h
  cases i with
  | nop => cases he; exact h
  | cksum => cases he; exact h
  | build => exact stateInv_execBuild hm h he
  | wdtSetup => exact stateInv_execWdtSetup hm h he
  | sleep => exact stateInv_execSleep hm h he
  | sleepPin =>
    cases he
    exact Iff.mpr (stateInv_iff_of_eSleep rfl) ⟨hrest, ⟨rfl, rfl, rfl, rfl, rfl⟩, ha.2⟩
  | sendFrame =>
    cases he
    exact Iff.mpr (stateInv_iff_of_isTx (.inr rfl))
      ⟨⟨fun _ => ⟨nofun, by simp [cycles, Config.tLead]⟩, nofun, fun _ => by simp [Config.nRepeat]⟩,
        ⟨by simp, fun _ _ => rfl⟩, by simp, ha⟩
  | sendSync => cases he; exact stateInv_startSync (.inl rfl) nofun ha
  | sendZero => cases he; exact stateInv_startBit false (.inl rfl) nofun ha
  | sendOne => cases he; exact stateInv_startBit true (.inl rfl) nofun ha

theorem stateInv_execute {v : Word} (hm : s.mode = .idle) (h : StateInv s) (he : execute v s = .next t) :
    StateInv t := by
  cases hd : decode v with
  | some i => exact stateInv_exec hm h (execute_of_decode hd ▸ he)
  | none =>
    rw [execute_of_illegal hd] at he
    cases he
    exact h

/-- Phase 6 of a cycle (10_state R40; 20_memory R63). -/
theorem stateInv_regWrite {a : RegAddr} {v : Word} (hm : s.mode = .idle) (h : StateInv s)
    (he : regWrite a v s = .next t) : StateInv t := by
  by_cases ha : a = 0xA
  · subst ha
    exact stateInv_execute hm h (regWrite_cmd v ▸ he)
  · rw [regWrite_of_ne_cmd v ha] at he
    cases he
    exact stateInv_writeReg v _ hm h

/-! ### The cycle and the runs -/

/-- Settles O57: a cycle is a reset, phases 1 to 5, or phases 1 to 4 and a write to an idle block, and each of these
operations keeps the invariant. -/
theorem stepKeepsInvariant : Obligations.StepKeepsInvariant := by
  intro s t hinv h
  rcases step_cases s with ⟨-, hs⟩ | ⟨-, -, hs⟩ | ⟨r, -, hm, -, hs⟩ <;> rw [hs] at h
  · cases h
    exact stateInv_applyReset _ _ _
  · cases h
    exact stateInv_cycleBeforeWrite hinv
  · exact stateInv_regWrite (by simpa using hm) (stateInv_wakePhases _ (stateInv_takePort.mpr hinv)) h

/-- What every step keeps holds along every run. -/
theorem runCycles_keeps {P : State → Prop} (hstep : ∀ s t, P s → step s = .next t → P t) {n : Nat}
    (hs : P s) (h : runCycles n s = .next t) : P t := by
  induction n generalizing s with
  | zero =>
    cases h
    exact hs
  | succ n ih =>
    cases hu : step s with
    | next u => exact ih (hstep s u hs hu) (runCycles_succ_of_step n hu ▸ h)
    | fault r => simp [runCycles, hu] at h
    | refused r => simp [runCycles, hu] at h

/-- Settles O58: the reset cycle establishes the invariant (O3) and every step keeps it (O57). -/
theorem reachedStatesMeetR41 : Obligations.ReachedStatesMeetR41 := by
  intro s t n hr h
  rw [runCycles_succ_of_step n (step_of_reset hr)] at h
  exact (runCycles_keeps stepKeepsInvariant (stateInv_applyReset _ _ _) h).1

/-- Settles O3: State.reset is the reset of itself with both inputs 0, and a reset establishes the invariant. -/
theorem resetEstablishesInvariant : Obligations.ResetEstablishesInvariant :=
  ⟨stateInv_applyReset false false State.reset,
    fun _ hr => ⟨_, step_of_reset hr, stateInv_applyReset _ _ _⟩⟩

end Sys2Proof.Machine
end

section
/-!
The outputs of a cycle (10_state R37), the idle cycle (10_state R40), and what moves the pin and the tracked polarity
(10_state R30, R31).
-/

namespace Sys2Proof.Machine

variable {s t : State}

/-! ### The outputs -/

/-- The read data of a cycle with an accepted read (20_memory R64). -/
theorem rspRdataO_of_read {r : Request} (h : accepted s = some r) (hr : r.we = false) :
    rspRdataO s = regRead s r.addr := by
  simp [rspRdataO, h, hr]

/-- The read data of a cycle with no accepted read (20_memory R64). -/
theorem rspRdataO_of_no_read (h : ∀ r, accepted s = some r → r.we = true) : rspRdataO s = 0 := by
  cases ha : accepted s with
  | none => simp [rspRdataO, ha]
  | some r => simp [rspRdataO, ha, h r ha]

/-- Settles O11: three outputs are fields, and the port's two are read off the accepted request. -/
theorem outputsOfACycle : Obligations.OutputsOfACycle := fun _ =>
  ⟨rfl, rfl, rfl, Option.isSome_iff_exists, fun _ => rspRdataO_of_read, rspRdataO_of_no_read⟩

/-! ### The idle cycle -/

/-- Phases 1 to 4 read and write the record S only, so the port does not matter to them (10_state R40). -/
theorem sameS_wakePhases_takePort (v : Bool) (s : State) : SameS (wakePhases v s) (wakePhases v (takePort s)) := rfl

/-- An idle block has no engine, so its cycle before the write is phases 1 to 4 (10_state R40). -/
theorem cycleBeforeWrite_of_idle (h : s.mode = .idle) :
    cycleBeforeWrite s = wakePhases (pinSample s).pcint (takePort s) :=
  engineStep_idle _ _ (by simpa using h)

/-- Settles O17: the state of phases 1 to 4 is the state before the write, as no engine runs. -/
theorem idleCycleIsWakePhasesThenWrite : Obligations.IdleCycleIsWakePhasesThenWrite := by
  intro s hm hr
  refine ⟨cycleBeforeWrite s, ?_, fun r => step_of_write, step_of_no_write hr⟩
  rw [cycleBeforeWrite_of_idle hm]
  exact sameS_wakePhases_takePort _ s

/-! ### The pin and the tracked polarity -/

/-- The four transmit commands (42_transmitter R150 to R153). -/
def Transmits (i : Instr) : Prop := 3 ≤ (opcode i).toNat ∧ (opcode i).toNat ≤ 6

/-- The opcode map from opcode to command undoes the one from command to opcode (30_encoding R87). -/
theorem opcode_of_instrOfOpcode {op : BitVec 4} {i : Instr} (h : instrOfOpcode op = some i) : opcode i = op := by
  revert op
  cases i <;> decide

/-- The decoder's two conditions (30_encoding R88). -/
theorem decode_eq_some_iff {w : Word} {i : Instr} :
    decode w = some i ↔ rsvField w = 0#12 ∧ instrOfOpcode (opField w) = some i := by
  unfold decode decodeNamed
  by_cases hr : rsvField w = 0#12
  · cases ho : instrOfOpcode (opField w) <;> simp [hr]
  · simp [hr]

/-- A word that decodes to a command is, as a number, the command's opcode (30_encoding R85). -/
theorem toNat_of_decode {w : Word} {i : Instr} (h : decode w = some i) : w.toNat = (opcode i).toNat := by
  obtain ⟨hr, ho⟩ := decode_eq_some_iff.mp h
  have hrsv : w.toNat / 16 = 0 := by
    have := congrArg BitVec.toNat hr
    simp only [rsvField, BitVec.extractLsb'_toNat, Nat.shiftRight_eq_div_pow, BitVec.toNat_ofNat] at this
    omega
  rw [opcode_of_instrOfOpcode ho, opField, BitVec.extractLsb'_toNat, Nat.shiftRight_zero]
  omega

/-- A command that transmits nothing leaves the pin and the polarity. -/
theorem exec_pin_pol {i : Instr} (hi : ¬ Transmits i) (h : exec i s = .next t) : t.pin = s.pin ∧ t.pol = s.pol := by
  cases i with
  | sendFrame | sendSync | sendZero | sendOne => exact absurd ⟨by decide, by decide⟩ hi
  | sleep =>
    cases h
    split <;> exact ⟨rfl, rfl⟩
  | _ => cases h; exact ⟨rfl, rfl⟩

/-- A word that is no transmit command leaves the pin and the polarity, whether it is legal or not. -/
theorem execute_pin_pol {w : Word} (hw : ¬ (3 ≤ w.toNat ∧ w.toNat ≤ 6)) (h : execute w s = .next t) :
    t.pin = s.pin ∧ t.pol = s.pol := by
  cases hd : decode w with
  | some i => exact exec_pin_pol (by rwa [Transmits, ← toNat_of_decode hd]) (execute_of_decode hd ▸ h)
  | none =>
    rw [execute_of_illegal hd] at h
    cases h
    exact ⟨rfl, rfl⟩

theorem writeReg_pin_pol (v : Word) (r : Reg) : (writeReg s v r).pin = s.pin ∧ (writeReg s v r).pol = s.pol := by
  cases r <;> exact ⟨rfl, rfl⟩

/-- Of the accepted writes only a transmit command moves the pin or the polarity (20_memory R63). -/
theorem regWrite_pin_pol {a : RegAddr} {v : Word} (hav : ¬ (a = 0xA ∧ 3 ≤ v.toNat ∧ v.toNat ≤ 6))
    (h : regWrite a v s = .next t) : t.pin = s.pin ∧ t.pol = s.pol := by
  by_cases ha : a = 0xA
  · subst ha
    exact execute_pin_pol (fun hv => hav ⟨rfl, hv⟩) (regWrite_cmd v ▸ h)
  · rw [regWrite_of_ne_cmd v ha] at h
    cases h
    exact writeReg_pin_pol v _

/-- Of the engines only the transmitter moves the pin or the polarity (10_state R40). -/
theorem engineStep_pin_pol (woken dP : Bool) (hm : ¬ s.mode.isTx) :
    (engineStep woken dP s).pin = s.pin ∧ (engineStep woken dP s).pol = s.pol := by
  cases hs : s.mode with
  | idle => simp [engineStep, hs]
  | txSym => exact absurd (.inl hs) hm
  | txFrame => exact absurd (.inr hs) hm
  | tSleep =>
    simp only [engineStep, hs]
    rcases tSleepStep_cases woken s with ⟨-, h⟩ | ⟨-, -, h⟩ | ⟨-, -, -, h⟩ | ⟨-, -, -, h⟩ <;> simp [h]
  | eSleep =>
    simp only [engineStep, hs]
    rcases eSleepStep_cases dP s with ⟨-, h⟩ | ⟨-, h⟩ <;> simp [h]

theorem cycleBeforeWrite_pin_pol (hm : ¬ s.mode.isTx) :
    (cycleBeforeWrite s).pin = s.pin ∧ (cycleBeforeWrite s).pol = s.pol :=
  engineStep_pin_pol (s := wakePhases (pinSample s).pcint (takePort s)) _ _ hm

/-- Settles O52: with no transmission running, no phase of the cycle but the write of a transmit command moves the pin
or the polarity. -/
theorem onlyTransmitterMovesPin : Obligations.OnlyTransmitterMovesPin := by
  intro s t hr h hmoved
  have hchanged : ¬ (t.pin = s.pin ∧ t.pol = s.pol) := not_and_or.mpr hmoved
  by_cases hm : s.mode.isTx
  · exact .inl hm
  right
  rcases step_cases s with ⟨hrst, -⟩ | ⟨-, -, hs⟩ | ⟨⟨we, a, v⟩, -, -, hw, hs⟩
  · simp [hr] at hrst
  · cases hs.symm.trans h
    exact absurd (cycleBeforeWrite_pin_pol hm) hchanged
  · have hav : a = 0xA ∧ 3 ≤ v.toNat ∧ v.toNat ≤ 6 := by
      by_contra hav
      exact hchanged (regWrite_pin_pol (s := wakePhases _ (takePort s)) hav (hs.symm.trans h))
    obtain ⟨-, -, rfl, -⟩ := acceptedWrite_eq_some_iff.mp hw
    obtain ⟨rfl, hv⟩ := hav
    exact ⟨v, hw, hv⟩

end Sys2Proof.Machine
end

section
/-!
The register port (20_memory R61 to R77): what is accepted, what a request that writes nothing leaves alone, what each
register reads, and what an accepted write does to it.
-/

namespace Sys2Proof.Machine

variable {s : State}

/-! ### Acceptance -/

/-- Settles O12: outside reset the acceptance rule asks only for a read or an idle block. -/
theorem acceptanceRule : Obligations.AcceptanceRule := by
  intro s hr
  rw [reqReadyO, Option.isSome_iff_exists]
  simp only [accepted_eq_some_iff, hr, true_and]

/-- A write is accepted only when some request is. -/
theorem acceptedWrite_of_not_ready (h : reqReadyO s = false) : acceptedWrite s = none := by
  have hnone : accepted s = none := by simpa [reqReadyO] using h
  rw [acceptedWrite, hnone, Option.filter_none]

/-- An accepted read is no accepted write. -/
theorem acceptedWrite_of_read {r : Request} (h : accepted s = some r) (hr : r.we = false) :
    acceptedWrite s = none := by
  rw [acceptedWrite, h, Option.filter_some_neg (by simp [hr])]

/-- A held request that is not accepted stays at the head of the host's actions (log entry 3). -/
theorem hostAfter_of_stalled_request {r : Request} {rest : List HostAction} (hh : s.host = .request r :: rest)
    (h : reqReadyO s = false) : hostAfter s = s.host := by
  simp [hostAfter, hh, h]

/-! ### The port is apart from the record S -/

/-- `s` with the host's actions, the coming samples and the port's answer of `p`. -/
def withPort (p s : State) : State :=
  { s with host := p.host, pins := p.pins, reqReady := p.reqReady, rspRdata := p.rspRdata }

theorem endRepeat_withPort (p s : State) : endRepeat (withPort p s) = withPort p (endRepeat s) := by
  rw [endRepeat, endRepeat, apply_ite (withPort p)]
  rfl

theorem nextInFrame_withPort (p s : State) : nextInFrame (withPort p s) = withPort p (nextInFrame s) := by
  rw [nextInFrame, nextInFrame, endRepeat_withPort, apply_ite (withPort p)]
  rfl

theorem endSegment_withPort (p s : State) : endSegment (withPort p s) = withPort p (endSegment s) := by
  have hnext : (if s.mode = .txSym then endSymbol (withPort p s) else nextInFrame (withPort p s)) =
      withPort p (if s.mode = .txSym then endSymbol s else nextInFrame s) := by
    rw [nextInFrame_withPort, apply_ite (withPort p)]
    rfl
  rw [endSegment, endSegment, show (withPort p s).phase = s.phase from rfl, show (withPort p s).mode = s.mode from rfl]
  cases s.phase with
  | none | lead | pulse => rfl
  | sync | hold => exact hnext

theorem txStep_withPort (p s : State) : txStep (withPort p s) = withPort p (txStep s) := by
  rw [txStep, txStep, endSegment_withPort, apply_ite (withPort p)]
  rfl

theorem tSleepStep_withPort (woken : Bool) (p s : State) :
    tSleepStep woken (withPort p s) = withPort p (tSleepStep woken s) := by
  simp only [tSleepStep, apply_ite (withPort p)]
  rfl

theorem eSleepStep_withPort (dP : Bool) (p s : State) :
    eSleepStep dP (withPort p s) = withPort p (eSleepStep dP s) := by
  cases dP <;> rfl

/-- Phase 5 neither reads nor writes the port (10_state R40). -/
theorem engineStep_withPort (woken dP : Bool) (p s : State) :
    engineStep woken dP (withPort p s) = withPort p (engineStep woken dP s) := by
  rw [engineStep, engineStep, show (withPort p s).mode = s.mode from rfl]
  cases s.mode with
  | idle => rfl
  | txSym | txFrame => exact txStep_withPort p s
  | tSleep => exact tSleepStep_withPort woken p s
  | eSleep => exact eSleepStep_withPort dP p s

/-- Phases 1 to 5 work on the record S alone, with the port taken beside them (10_state R40). -/
theorem cycleBeforeWrite_eq_withPort (s : State) : cycleBeforeWrite s =
    withPort (takePort s) (engineStep (wake s) (deliverPc s) (wakePhases (pinSample s).pcint s)) :=
  engineStep_withPort _ _ (takePort s) (wakePhases (pinSample s).pcint s)

@[simp] theorem cycleBeforeWrite_host (s : State) : (cycleBeforeWrite s).host = hostAfter s := by
  rw [cycleBeforeWrite_eq_withPort]
  rfl

/-- What the host has to do does not matter to phases 1 to 5. -/
theorem sameS_cycleBeforeWrite_silent (s : State) :
    SameS (cycleBeforeWrite { s with host := [] }) (cycleBeforeWrite s) := by
  have hsilent : cycleBeforeWrite { s with host := [] } = withPort (takePort { s with host := [] })
      (engineStep (wake s) (deliverPc s) (wakePhases (pinSample s).pcint s)) :=
    engineStep_withPort _ _ (takePort { s with host := [] }) (wakePhases (pinSample s).pcint s)
  rw [hsilent, cycleBeforeWrite_eq_withPort]
  rfl

/-- A cycle with no accepted write, reset or not, changes the record S as a silent cycle does. -/
theorem step_silent_of_no_write (hw : acceptedWrite s = none) :
    ∃ t u, step s = .next t ∧ step { s with host := [] } = .next u ∧ SameS u t ∧ t.host = hostAfter s := by
  have hwSilent : acceptedWrite { s with host := [] } = none := acceptedWrite_of_silent rfl
  cases hr : (pinSample s).rst with
  | true => exact ⟨_, _, step_of_reset hr, step_of_reset hr, rfl, rfl⟩
  | false =>
    exact ⟨_, _, step_of_no_write hr hw, step_of_no_write hr hwSilent, sameS_cycleBeforeWrite_silent s,
      cycleBeforeWrite_host s⟩

/-- Settles O13: with nothing accepted there is no accepted write, and a held request stays the host's next action. -/
theorem stalledRequestHasNoEffect : Obligations.StalledRequestHasNoEffect := by
  intro s h
  obtain ⟨t, u, ht, hu, hsame, hhost⟩ := step_silent_of_no_write (acceptedWrite_of_not_ready h)
  exact ⟨t, u, ht, hu, hsame, fun r rest hh => hhost.trans (hostAfter_of_stalled_request hh h)⟩

/-- Settles O14: an accepted read is no accepted write. -/
theorem readsHaveNoEffect : Obligations.ReadsHaveNoEffect := by
  intro s r h hr
  obtain ⟨t, u, ht, hu, hsame, -⟩ := step_silent_of_no_write (acceptedWrite_of_read h hr)
  exact ⟨t, u, ht, hu, hsame, rspRdataO_of_read h hr⟩

/-! ### The busy block -/

/-- Settles O54: a busy block accepts no write, and phases 1 to 5 write none of these fields. -/
theorem busyBlockKeepsItsOperands : Obligations.BusyBlockKeepsItsOperands := by
  intro s t hr h hm
  cases (step_of_no_write hr (acceptedWrite_of_busy hm)).symm.trans h
  obtain ⟨_, _, _, _, _, _, _, _, _, _, _, _, _, _, he⟩ := engineStep_frame (wake s) (deliverPc s)
    (wakePhases (pinSample s).pcint (takePort s))
  rw [cycleBeforeWrite, he]
  exact ⟨rfl, rfl, rfl, rfl, rfl, rfl, rfl, rfl, rfl, rfl⟩

/-! ### What the registers read -/

@[simp] theorem bitWord_toNat (b : Bool) : (bitWord b).toNat = b.toNat := by cases b <;> rfl

theorem Mode.code_le (m : Mode) : m.code.toNat ≤ 4 := by cases m <;> decide

theorem Phase.code_le (p : Phase) : p.code.toNat ≤ 4 := by cases p <;> decide

/-- A field at bit `i` above a word that ends below it: as a number, the image is their weighted sum. -/
theorem toNat_shiftLeft_or {x y : Word} (i : Nat) (hx : 2 ^ i * x.toNat < 65536) (hy : y.toNat < 2 ^ i) :
    (x <<< i ||| y).toNat = 2 ^ i * x.toNat + y.toNat := by
  have hshift : (x <<< i).toNat = 2 ^ i * x.toNat := by
    rw [BitVec.toNat_shiftLeft, Nat.shiftLeft_eq, Nat.mul_comm, Nat.mod_eq_of_lt hx]
  rw [BitVec.toNat_or, hshift, Nat.two_pow_add_eq_or_of_lt hy]

/-- A flag at bit `i` above a word that ends below it, and the end of the image one bit higher. -/
theorem toNat_flag_or (b : Bool) {y : Word} (i : Nat) (hi : i < 16) (hy : y.toNat < 2 ^ i) :
    (bitWord b <<< i ||| y).toNat = 2 ^ i * b.toNat + y.toNat ∧ (bitWord b <<< i ||| y).toNat < 2 ^ (i + 1) := by
  have hb : 2 ^ i * b.toNat ≤ 2 ^ i := by cases b <;> simp
  have hi16 : 2 ^ i < 65536 := Nat.pow_lt_pow_right (by decide) hi
  have heq := toNat_shiftLeft_or (x := bitWord b) i (by rw [bitWord_toNat]; omega) hy
  rw [bitWord_toNat] at heq
  exact ⟨heq, by rw [heq, Nat.pow_succ]; omega⟩

theorem enablesImage_toNat (s : State) :
    (enablesImage s).toNat = 4 * s.pcIe.toNat + 2 * s.wdtIe.toNat + s.gie.toNat ∧ (enablesImage s).toNat < 8 := by
  obtain ⟨h1, hlt1⟩ := toNat_flag_or s.wdtIe (y := bitWord s.gie) 1 (by decide) (by simpa using s.gie.toNat_lt)
  obtain ⟨h2, hlt2⟩ := toNat_flag_or s.pcIe 2 (by decide) hlt1
  rw [enablesImage, BitVec.or_assoc]
  refine ⟨?_, hlt2⟩
  rw [h2, h1, bitWord_toNat]
  omega

/-- The IRQ register as a number (20_memory R64, R75). -/
theorem irqImage_toNat (s : State) : (irqImage s).toNat =
    256 * s.wdrf.toNat + 32 * s.pcIf.toNat + 16 * s.wdtIf.toNat + 4 * s.pcIe.toNat + 2 * s.wdtIe.toNat +
      s.gie.toNat := by
  obtain ⟨h0, hlt0⟩ := enablesImage_toNat s
  obtain ⟨h4, hlt4⟩ := toNat_flag_or s.wdtIf (y := enablesImage s) 4 (by decide) (by omega)
  obtain ⟨h5, hlt5⟩ := toNat_flag_or s.pcIf 5 (by decide) hlt4
  obtain ⟨h8, -⟩ := toNat_flag_or s.wdrf 8 (by decide) (Nat.lt_trans hlt5 (by decide))
  rw [irqImage, BitVec.or_assoc, BitVec.or_assoc, h8, h5, h4, h0]
  omega

/-- The WDT register as a number (20_memory R64, R76). -/
theorem wdtImage_toNat (s : State) : (wdtImage s).toNat = 16 * s.wdtEn.toNat + s.wdtIdx.toNat := by
  have hidx : (s.wdtIdx.zeroExtend 16).toNat = s.wdtIdx.toNat := BitVec.toNat_setWidth_of_le (by decide)
  rw [wdtImage, (toNat_flag_or s.wdtEn 4 (by decide) (hidx ▸ s.wdtIdx.isLt)).1, hidx]
  rfl

/-- The TXPOS register as a number (20_memory R64, R77). -/
theorem txposImage_toNat (s : State) : (txposImage s).toNat =
    4096 * s.phase.code.toNat + 1024 * s.sym.toNat + 256 * s.rep.toNat + s.bitIdx.toNat := by
  have hbit : (s.bitIdx.zeroExtend 16).toNat = s.bitIdx.toNat := BitVec.toNat_setWidth_of_le (by decide)
  have hrep : (s.rep.zeroExtend 16).toNat = s.rep.toNat := BitVec.toNat_setWidth_of_le (by decide)
  have hbitLt := s.bitIdx.isLt
  have hrepLt := s.rep.isLt
  have hphase := s.phase.code_le
  have h8 := toNat_shiftLeft_or (x := s.rep.zeroExtend 16) (y := s.bitIdx.zeroExtend 16) 8 (by omega) (by omega)
  obtain ⟨h10, hlt10⟩ := toNat_flag_or s.sym (y := s.rep.zeroExtend 16 <<< 8 ||| s.bitIdx.zeroExtend 16) 10
    (by decide) (by omega)
  have h12 := toNat_shiftLeft_or (x := s.phase.code) 12 (by omega) (Nat.lt_trans hlt10 (by decide))
  rw [txposImage, BitVec.or_assoc, BitVec.or_assoc, h12, h10, h8, hrep, hbit]
  omega

/-- The STATUS register as a number (20_memory R64, R77). -/
theorem statusImage_toNat (s : State) : (statusImage s).toNat =
    128 * s.cmdErr.toNat + 64 * s.analogEn.toNat + 32 * s.halt.toNat + 16 * s.pol.toNat + 8 * s.pin.toNat +
      s.mode.code.toNat := by
  have hmode := s.mode.code_le
  obtain ⟨h3, hlt3⟩ := toNat_flag_or s.pin (y := s.mode.code) 3 (by decide) (by omega)
  obtain ⟨h4, hlt4⟩ := toNat_flag_or s.pol 4 (by decide) hlt3
  obtain ⟨h5, hlt5⟩ := toNat_flag_or s.halt 5 (by decide) hlt4
  obtain ⟨h6, hlt6⟩ := toNat_flag_or s.analogEn 6 (by decide) hlt5
  obtain ⟨h7, -⟩ := toNat_flag_or s.cmdErr 7 (by decide) hlt6
  simp only [statusImage, BitVec.or_assoc]
  rw [h7, h6, h5, h4, h3]
  omega

/-- Two bytes as one register, the first one high (20_memory R64). -/
theorem toNat_append_byte (x y : Byte) : (x ++ y).toNat = 256 * x.toNat + y.toNat := by
  rw [BitVec.toNat_append, ← Nat.shiftLeft_add_eq_or_of_lt y.isLt, Nat.shiftLeft_eq, Nat.mul_comm]

/-- Settles O15: the packed registers are sums of weighted fields, and the others are one field each. -/
theorem registerImages : Obligations.RegisterImages := by
  have hext : ∀ {k : Nat} (x : BitVec k), k ≤ 16 → (x.zeroExtend 16).toNat = x.toNat :=
    fun _ hk => BitVec.toNat_setWidth_of_le hk
  exact ⟨rfl, rfl, fun s => ⟨rfl, rfl, hext s.devId (by decide), hext s.chan (by decide), bitWord_toNat s.battOk,
    toNat_append_byte _ _, toNat_append_byte _ _, hext s.frame.b4 (by decide), hext s.flen (by decide), rfl, rfl,
    irqImage_toNat s, wdtImage_toNat s, rfl, txposImage_toNat s, statusImage_toNat s⟩⟩

/-! ### What a write does -/

/-- Bit `i` of a word as a remainder. -/
theorem getLsbD_eq_decide (v : Word) (i : Nat) : v.getLsbD i = decide (v.toNat / 2 ^ i % 2 = 1) :=
  Nat.testBit_eq_decide_div_mod_eq

/-- The low bits of a word as a remainder. -/
theorem extractLsb'_zero_eq_ofNat (v : Word) (k : Nat) : v.extractLsb' 0 k = BitVec.ofNat k (v.toNat % 2 ^ k) :=
  BitVec.eq_of_toNat_eq (by simp)

/-- The high byte of a word as a quotient. -/
theorem extractLsb'_eight_eq_ofNat (v : Word) : v.extractLsb' 8 8 = BitVec.ofNat 8 (v.toNat / 256) := by
  rw [BitVec.extractLsb', Nat.shiftRight_eq_div_pow]

/-- Settles O16: each write is a row of the write table, with the bits it keeps of the word as numbers. -/
theorem writeRule : Obligations.WriteRule := by
  intro s v
  have hbit0 : v.getLsbD 0 = decide (v.toNat % 2 = 1) := by simpa using getLsbD_eq_decide v 0
  have hbit1 : v.getLsbD 1 = decide (v.toNat / 2 % 2 = 1) := getLsbD_eq_decide v 1
  have hbit2 : v.getLsbD 2 = decide (v.toNat / 4 % 2 = 1) := getLsbD_eq_decide v 2
  have hid : v.extractLsb' 0 6 = BitVec.ofNat 6 (v.toNat % 64) := extractLsb'_zero_eq_ofNat v 6
  have hchan : v.extractLsb' 0 2 = BitVec.ofNat 2 (v.toNat % 4) := extractLsb'_zero_eq_ofNat v 2
  have hlow : v.extractLsb' 0 8 = BitVec.ofNat 8 (v.toNat % 256) := extractLsb'_zero_eq_ofNat v 8
  have hhigh := extractLsb'_eight_eq_ofNat v
  rw [← hbit0, ← hbit1, ← hbit2, ← hid, ← hchan, ← hlow, ← hhigh]
  exact ⟨rfl, rfl, rfl, rfl, rfl, rfl, rfl, rfl, rfl, rfl, rfl, rfl, rfl, rfl, rfl, rfl⟩

/-! ### What a register reads after a write -/

/-- What a register other than CMD reads after a write of `v` in state `s` (20_memory R66 to R73, R75 to R77). -/
def readBack (s : State) (v : Word) : Reg → Word
  | .temp | .hum | .frame01 | .frame23 | .arg => v
  | .id => v &&& 0x3F
  | .chan => v &&& 0x3
  | .batt => v &&& 0x1
  | .frame4 => v &&& 0xFF
  | .flen => if v.toNat ≤ 40 then v else 40
  | .irq => (irqImage s &&& 0x0130) ||| (v &&& 0x7)
  | r => readReg s r

/-- The low bits of a word, read back into the whole register. -/
theorem zeroExtend_extractLsb' (v : Word) {k : Nat} (hk : k ≤ 16) :
    (v.extractLsb' 0 k).zeroExtend 16 = v &&& BitVec.ofNat 16 (2 ^ k - 1) := by
  have hmask : 2 ^ k - 1 < 2 ^ 16 := Nat.lt_of_lt_of_le (Nat.sub_lt (Nat.two_pow_pos k) Nat.one_pos)
    (Nat.pow_le_pow_right (by decide) hk)
  refine BitVec.eq_of_toNat_eq ?_
  rw [BitVec.toNat_and, BitVec.toNat_ofNat, Nat.mod_eq_of_lt hmask, Nat.and_two_pow_sub_one_eq_mod,
    BitVec.toNat_setWidth_of_le hk, BitVec.extractLsb'_toNat, Nat.shiftRight_zero]

theorem bitWord_getLsbD_zero (v : Word) : bitWord (v.getLsbD 0) = v &&& 0x1 := by
  have hbit : ∀ b : Bool, bitWord b = (BitVec.ofBool b).setWidth 16 := by decide
  rw [hbit]
  exact (BitVec.and_one_eq_setWidth_ofBool_getLsbD).symm

/-- The two bytes of a word make it up. -/
theorem extractLsb'_append_bytes (v : Word) : v.extractLsb' 8 8 ++ v.extractLsb' 0 8 = v := by
  refine BitVec.eq_of_toNat_eq ?_
  rw [toNat_append_byte, BitVec.extractLsb'_toNat, BitVec.extractLsb'_toNat, Nat.shiftRight_eq_div_pow,
    Nat.shiftRight_zero]
  omega

theorem zeroExtend_clampFlen (v : Word) : (clampFlen v).zeroExtend 16 = if v.toNat ≤ 40 then v else 40 := by
  refine BitVec.eq_of_toNat_eq ?_
  rw [BitVec.toNat_setWidth_of_le (by decide), clampFlen_toNat]
  split
  · exact Nat.min_eq_left ‹_›
  · exact Nat.min_eq_right (by omega)

/-- The enables after a write of `v` to IRQ are its three low bits (20_memory R75). -/
theorem enablesImage_writeReg_irq (s : State) (v : Word) : enablesImage (writeReg s v .irq) = v &&& 0x7 := by
  refine BitVec.eq_of_toNat_eq ?_
  have hmask : (v &&& 0x7).toNat = v.toNat % 8 := Nat.and_two_pow_sub_one_eq_mod v.toNat 3
  have hbit : ∀ i, (v.getLsbD i).toNat = v.toNat / 2 ^ i % 2 := Nat.toNat_testBit v.toNat
  rw [(enablesImage_toNat _).1, hmask]
  simp only [writeReg, hbit]
  omega

/-- Without its enables, IRQ is the reset cause and the two pending flags. -/
theorem irqImage_and_flagMask (s : State) :
    irqImage s &&& (0x0130 : Word) = bitWord s.wdrf <<< 8 ||| bitWord s.pcIf <<< 5 ||| bitWord s.wdtIf <<< 4 := by
  have hflags : ∀ r p w pe we g : Bool,
      (bitWord r <<< 8 ||| bitWord p <<< 5 ||| bitWord w <<< 4 |||
        (bitWord pe <<< 2 ||| bitWord we <<< 1 ||| bitWord g)) &&& (0x0130 : Word) =
      bitWord r <<< 8 ||| bitWord p <<< 5 ||| bitWord w <<< 4 := by decide
  exact hflags _ _ _ _ _ _

/-- A write to IRQ replaces the enables and leaves the reset cause and the pending flags (20_memory R75). -/
theorem irqImage_writeReg_irq (s : State) (v : Word) :
    irqImage (writeReg s v .irq) = (irqImage s &&& 0x0130) ||| (v &&& 0x7) := by
  rw [irqImage_and_flagMask, ← enablesImage_writeReg_irq s]
  rfl

theorem readReg_writeReg_same (s : State) (v : Word) (r : Reg) : readReg (writeReg s v r) r = readBack s v r := by
  cases r with
  | id => exact zeroExtend_extractLsb' v (k := 6) (by decide)
  | chan => exact zeroExtend_extractLsb' v (k := 2) (by decide)
  | batt => exact bitWord_getLsbD_zero v
  | frame01 | frame23 => exact extractLsb'_append_bytes v
  | frame4 => exact zeroExtend_extractLsb' v (k := 8) (by decide)
  | flen => exact zeroExtend_clampFlen v
  | irq => exact irqImage_writeReg_irq s v
  | _ => rfl

/-- No two registers share a bit: a write to one leaves every other, in the table of sixteen writes by
sixteen reads (20_memory R63, R64). -/
theorem readReg_writeReg_of_ne (s : State) (v : Word) {r q : Reg} (h : q ≠ r) :
    readReg (writeReg s v r) q = readReg s q := by
  have htable : readReg (writeReg s v r) q = if q = r then readReg (writeReg s v r) q else readReg s q := by
    cases r <;> cases q <;> rfl
  rw [htable, if_neg h]

/-- Settles O18: the register written reads back as `readBack` says, and every other one as before. -/
theorem readBackAfterWrite : Obligations.ReadBackAfterWrite := by
  intro s t a v h ha
  rw [regWrite_of_ne_cmd v ha] at h
  cases h
  refine ⟨(readReg_writeReg_same s v (Reg.ofAddr a)).trans ?_, fun b hb => ?_⟩
  · obtain ⟨r, rfl⟩ : ∃ r : Reg, r.addr = a := ⟨_, Reg.addr_ofAddr a⟩
    rw [Reg.ofAddr_addr, regRead, Reg.ofAddr_addr]
    cases r <;> rfl
  · exact readReg_writeReg_of_ne s v fun hba => hb (by rw [← Reg.addr_ofAddr b, hba, Reg.addr_ofAddr])

end Sys2Proof.Machine
end

section
/-!
The encoding (30_encoding): command words (R85 to R89), request words (R90), and the pseudo-instructions SEI, CLI and
WAITIDLE of host programs (R92).
-/

namespace Sys2Proof.Machine

variable {s : State}

/-! ### Command words -/

/-- The law of each command's word (30_encoding R85, R87), for every command. -/
theorem encoding_statement : ∀ i : Instr, Laws.Encoding.Statement i
  | .nop => Laws.Encoding.nop
  | .build => Laws.Encoding.build
  | .cksum => Laws.Encoding.cksum
  | .sendFrame => Laws.Encoding.sendFrame
  | .sendSync => Laws.Encoding.sendSync
  | .sendZero => Laws.Encoding.sendZero
  | .sendOne => Laws.Encoding.sendOne
  | .wdtSetup => Laws.Encoding.wdtSetup
  | .sleep => Laws.Encoding.sleep
  | .sleepPin => Laws.Encoding.sleepPin

@[simp] theorem decode_encode (i : Instr) : decode (encode i) = some i := by
  obtain ⟨-, -, -, h⟩ := encoding_statement i
  exact h

/-- A command is read from its own word only, as every word that decodes to it is its opcode as a number. -/
theorem decode_eq_some_iff_eq_encode {w : Word} {i : Instr} : decode w = some i ↔ w = encode i := by
  constructor
  · intro h
    exact BitVec.eq_of_toNat_eq ((toNat_of_decode h).trans (toNat_of_decode (decode_encode i)).symm)
  · rintro rfl
    exact decode_encode i

/-- The commands in opcode order (30_encoding R87). -/
def instrs : List Instr :=
  [.nop, .build, .cksum, .sendFrame, .sendSync, .sendZero, .sendOne, .wdtSetup, .sleep, .sleepPin]

theorem mem_instrs (i : Instr) : i ∈ instrs := by cases i <;> decide

/-- In opcode order the command words are 0 to 9 (30_encoding R87). -/
theorem instrs_map_encode_toNat : instrs.map (fun i => (encode i).toNat) = List.range 10 := by decide

/-- The words of commands are the numbers below 10. -/
theorem exists_eq_encode_iff {w : Word} : (∃ i, w = encode i) ↔ w.toNat < 10 := by
  rw [← List.mem_range, ← instrs_map_encode_toNat, List.mem_map]
  constructor
  · rintro ⟨i, rfl⟩
    exact ⟨i, mem_instrs i, rfl⟩
  · rintro ⟨i, -, h⟩
    exact ⟨i, BitVec.eq_of_toNat_eq h.symm⟩

/-- The illegal words (30_encoding R88, R89). -/
theorem decode_eq_none_iff {w : Word} : decode w = none ↔ 10 ≤ w.toNat := by
  rw [Option.eq_none_iff_forall_ne_some, ← not_lt, ← exists_eq_encode_iff, not_exists]
  exact forall_congr' fun i => not_congr decode_eq_some_iff_eq_encode

/-- Settles O4: a word decodes to a command exactly when it is the command's own word, and those words are 0 to 9. -/
theorem decodeInvertsEncodeOnTenWords : Obligations.DecodeInvertsEncodeOnTenWords :=
  ⟨fun _ _ => decode_eq_some_iff_eq_encode, fun _ => decode_eq_none_iff, instrs_map_encode_toNat⟩

/-- Settles O5: seven words are those of commands, and three are 10 or more. -/
theorem sampleWordsDecodeAsListed : Obligations.SampleWordsDecodeAsListed :=
  ⟨decode_encode .nop, decode_encode .build, decode_encode .cksum, decode_encode .sendFrame, decode_encode .sendOne,
    decode_encode .wdtSetup, decode_encode .sleepPin, decode_eq_none_iff.mpr (by decide),
    decode_eq_none_iff.mpr (by decide), decode_eq_none_iff.mpr (by decide)⟩

/-! ### Request words -/

/-- A request word as a number, field by field (30_encoding R90). -/
theorem encodeRequest_toNat (r : Request) :
    (encodeRequest r).toNat = r.we.toNat * 2 ^ 20 + r.addr.toNat * 2 ^ 16 + r.data.toNat := by
  rw [encodeRequest, BitVec.toNat_append, BitVec.toNat_append, BitVec.toNat_ofBool,
    ← Nat.shiftLeft_add_eq_or_of_lt r.addr.isLt, ← Nat.shiftLeft_add_eq_or_of_lt r.data.isLt, Nat.shiftLeft_eq,
    Nat.shiftLeft_eq]
  omega

/-- The fields of a request are digits of its word, so two requests with one word are one. -/
theorem encodeRequest_injective : Function.Injective encodeRequest := by
  rintro ⟨we, addr, data⟩ ⟨we', addr', data'⟩ h
  have hnum := congrArg BitVec.toNat h
  simp only [encodeRequest_toNat] at hnum
  have haddr := addr.isLt
  have haddr' := addr'.isLt
  have hdata := data.isLt
  have hdata' := data'.isLt
  have hbool : Function.Injective Bool.toNat := Function.LeftInverse.injective Bool.ofNat_toNat
  rw [Request.mk.injEq, ← hbool.eq_iff, ← BitVec.toNat_inj, ← BitVec.toNat_inj]
  omega

theorem encodeRequest_decodeRequest (q : BitVec 21) : encodeRequest (decodeRequest q) = q := by
  refine BitVec.eq_of_toNat_eq ?_
  have hwe : (q.getLsbD 20).toNat = q.toNat / 2 ^ 20 % 2 := Nat.toNat_testBit q.toNat 20
  simp only [encodeRequest_toNat, decodeRequest, hwe, BitVec.extractLsb'_toNat, Nat.shiftRight_eq_div_pow]
  omega

theorem decodeRequest_encodeRequest (r : Request) : decodeRequest (encodeRequest r) = r :=
  encodeRequest_injective (encodeRequest_decodeRequest (encodeRequest r))

/-- A well-formed request is a write, or a read with DATA 0 (30_encoding R90). -/
theorem request_wellFormed_iff (r : Request) : r.wellFormed = true ↔ r.we = true ∨ r.data = 0 := by
  simp [Request.wellFormed]

/-- Settles O6: the number of a request word gives both round trips, and a well-formed read has only its address in
it. -/
theorem requestWordsRoundTrip : Obligations.RequestWordsRoundTrip := by
  refine ⟨decodeRequest_encodeRequest, encodeRequest_decodeRequest, fun r => ?_, request_wellFormed_iff,
    fun r hwf hread => ?_, rfl, rfl⟩
  · rw [encodeRequest_toNat]
    cases r.we <;> rfl
  · have hdata : r.data = 0 := ((request_wellFormed_iff r).mp hwf).resolve_left (by simp [hread])
    simp [encodeRequest_toNat, hread, hdata]

/-! ### SEI and CLI -/

/-- A write of IRQ presented to an idle block is accepted and sets the enables. -/
theorem step_of_irqWrite {v : Word} (hp : presented s = some (irqWrite v)) (hr : (pinSample s).rst = false)
    (hm : s.mode = .idle) : reqReadyO s = true ∧
      ∃ t, step s = .next t ∧ t.host = hostAfter s ∧
        t.gie = v.getLsbD 0 ∧ t.wdtIe = v.getLsbD 1 ∧ t.pcIe = v.getLsbD 2 := by
  have hready : accepted s = some (irqWrite v) := accepted_eq_some_iff.mpr ⟨hp, hr, .inr hm⟩
  have hwrite : acceptedWrite s = some (irqWrite v) := acceptedWrite_eq_some_iff.mpr ⟨hp, hr, rfl, hm⟩
  have hstep : step s = .next (writeReg (cycleBeforeWrite s) v .irq) :=
    (step_of_write hwrite).trans (regWrite_of_ne_cmd (a := 0xB) v (by decide))
  exact ⟨by simp [reqReadyO, hready], _, hstep, cycleBeforeWrite_host s, rfl, rfl, rfl⟩

/-- The bits of the enables' image (20_memory R75). -/
theorem enablesImage_bits (s : State) : (enablesImage s).getLsbD 0 = s.gie ∧ (enablesImage s).getLsbD 1 = s.wdtIe ∧
    (enablesImage s).getLsbD 2 = s.pcIe := by
  have hbits : ∀ p w g : Bool,
      (bitWord p <<< 2 ||| bitWord w <<< 1 ||| bitWord g).getLsbD 0 = g ∧
      (bitWord p <<< 2 ||| bitWord w <<< 1 ||| bitWord g).getLsbD 1 = w ∧
      (bitWord p <<< 2 ||| bitWord w <<< 1 ||| bitWord g).getLsbD 2 = p := by decide
  exact hbits _ _ _

/-- The word SEI writes: GIE set, the other enables as they stand (30_encoding R92). -/
theorem enablesImage_or_one_bits (s : State) :
    (enablesImage s ||| 1).getLsbD 0 = true ∧ (enablesImage s ||| 1).getLsbD 1 = s.wdtIe ∧
      (enablesImage s ||| 1).getLsbD 2 = s.pcIe := by
  obtain ⟨-, hwdt, hpc⟩ := enablesImage_bits s
  rw [BitVec.getLsbD_or, BitVec.getLsbD_or, BitVec.getLsbD_or, hwdt, hpc]
  exact ⟨Bool.or_true _, Bool.or_false _, Bool.or_false _⟩

/-- The word CLI writes: GIE clear, the other enables as they stand (30_encoding R92). -/
theorem enablesImage_and_six_bits (s : State) :
    (enablesImage s &&& 6).getLsbD 0 = false ∧ (enablesImage s &&& 6).getLsbD 1 = s.wdtIe ∧
      (enablesImage s &&& 6).getLsbD 2 = s.pcIe := by
  obtain ⟨-, hwdt, hpc⟩ := enablesImage_bits s
  rw [BitVec.getLsbD_and, BitVec.getLsbD_and, BitVec.getLsbD_and, hwdt, hpc]
  exact ⟨Bool.and_false _, Bool.and_true _, Bool.and_true _⟩

/-- Settles O19: both are writes of IRQ accepted in this cycle, with the other enables as the state has them. -/
theorem seiAndCliChangeOnlyGie : Obligations.SeiAndCliChangeOnlyGie := by
  intro s rest hm hr
  constructor
  · intro hh
    obtain ⟨hready, t, ht, hhost, hgie, hwdt, hpc⟩ :=
      step_of_irqWrite (v := enablesImage s ||| 1) (by rw [presented, hh]) hr hm
    obtain ⟨h0, h1, h2⟩ := enablesImage_or_one_bits s
    exact ⟨t, ht, by simp [hhost, hostAfter, hh, hready], hgie.trans h0, hwdt.trans h1, hpc.trans h2⟩
  · intro hh
    obtain ⟨hready, t, ht, hhost, hgie, hwdt, hpc⟩ :=
      step_of_irqWrite (v := enablesImage s &&& 6) (by rw [presented, hh]) hr hm
    obtain ⟨h0, h1, h2⟩ := enablesImage_and_six_bits s
    exact ⟨t, ht, by simp [hhost, hostAfter, hh, hready], hgie.trans h0, hwdt.trans h1, hpc.trans h2⟩

/-! ### WAITIDLE -/

theorem Mode.code_eq_zero_iff (m : Mode) : m.code = 0 ↔ m = .idle := by cases m <;> decide

/-- STATUS carries the mode in its three low bits (20_memory R77). -/
theorem statusImage_and_seven (s : State) : statusImage s &&& 7 = s.mode.code := by
  refine BitVec.eq_of_toNat_eq ?_
  have hmask : (statusImage s &&& 7).toNat = (statusImage s).toNat % 8 := Nat.and_two_pow_sub_one_eq_mod _ 3
  have hmode := s.mode.code_le
  rw [hmask, statusImage_toNat]
  omega

/-- WAITIDLE goes when its read of STATUS is accepted from an idle block, and stays otherwise (30_encoding R92). -/
theorem hostAfter_of_waitIdle {rest : List HostAction} (hh : s.host = .waitIdle :: rest)
    (ha : accepted s = some statusRead) : hostAfter s = if s.mode = .idle then rest else s.host := by
  have hdata : rspRdataO s &&& 7 = s.mode.code := rspRdataO_of_read ha rfl ▸ statusImage_and_seven s
  have hidle : rspRdataO s &&& 7#16 = 0#16 ↔ s.mode = .idle := hdata ▸ s.mode.code_eq_zero_iff
  simp [hostAfter, hh, reqReadyO, ha, hidle]

/-- Settles O20: the read of STATUS is accepted in every mode, and its three low bits are 0 only in an idle block. -/
theorem waitIdleEndsWhenIdle : Obligations.WaitIdleEndsWhenIdle := by
  intro s rest hr hh
  have ha : accepted s = some statusRead := accepted_eq_some_iff.mpr ⟨by rw [presented, hh], hr, .inl rfl⟩
  obtain ⟨t, u, ht, hu, hsame, hhost⟩ := step_silent_of_no_write (acceptedWrite_of_read ha rfl)
  rw [hostAfter_of_waitIdle hh ha] at hhost
  exact ⟨t, u, ht, hu, hsame, rspRdataO_of_read ha rfl, fun hm => hhost.trans (if_pos hm),
    fun hm => hhost.trans (if_neg hm)⟩

end Sys2Proof.Machine
end

section
/-!
Dispatch (40_dispatch R101 to R103): the cycle that accepts a command word runs the command, and an illegal word raises
CMD_ERR, which no cycle but a reset clears.
-/

namespace Sys2Proof.Machine

variable {s t : State}

/-! ### NOP -/

/-- Settles O21: the arm of NOP answers the state it is given. -/
theorem nopChangesNothing : Obligations.NopChangesNothing := fun _ => rfl

/-! ### The accepted command word -/

/-- A held write that is accepted leaves the host's actions and is answered with read data 0 (20_memory R61, R64). -/
theorem takePort_of_held_write {r : Request} {rest : List HostAction} (hh : s.host = .request r :: rest)
    (hw : acceptedWrite s = some r) :
    takePort s = { s with host := rest, pins := s.pins.tail, reqReady := true, rspRdata := 0 } := by
  obtain ⟨ha, hwe⟩ := Option.filter_eq_some_iff.mp hw
  have hready : reqReadyO s = true := by simp [reqReadyO, ha]
  have hdata : rspRdataO s = 0 := by simp [rspRdataO, ha, hwe]
  simp [takePort, hostAfter, hh, hready, hdata]

/-- A cycle that accepts a word at CMD executes it after phases 1 to 4 (10_state R40; 20_memory R74). -/
theorem step_of_cmd_write {w : Word} (hw : acceptedWrite s = some { we := true, addr := 0xA, data := w }) :
    step s = execute w (cycleBeforeWrite s) :=
  (step_of_write hw).trans (regWrite_cmd w)

/-- Settles O7: the word is accepted, no engine runs before it is executed, and it decodes to the command. -/
theorem stepRunsDecodedCommand : Obligations.StepRunsDecodedCommand := by
  intro s w i rest hm hr hh hd
  have hw : acceptedWrite s = some { we := true, addr := 0xA, data := w } :=
    acceptedWrite_eq_some_iff.mpr ⟨by rw [presented, hh], hr, rfl, hm⟩
  rw [step_of_cmd_write hw, execute_of_decode hd, cycleBeforeWrite_of_idle hm, takePort_of_held_write hh hw]

/-! ### The placed command word (log entry 11) -/

/-- The sample of a placed command is the state's own, with no reset. -/
theorem pinSample_placeCommand (w : Word) (s : State) :
    pinSample (placeCommand w s) = { pinSample s with rst := false } := by
  cases hp : s.pins <;> simp [pinSample, placeCommand, withoutReset, hp]

/-- A table word that is a command is that command as the decoder reads it. -/
theorem decode_tableWord {nbits w : Nat} {i : Instr} (h : decodeTableWord nbits w = some i) :
    decode (tableWord nbits w) = some i :=
  (Option.ite_none_right_eq_some.mp h).2

/-- Settles O8: a placed word meets the conditions of O7, and the port's fields are not among those of the record S. -/
theorem placedTableWordRunsNext : Obligations.PlacedTableWordRunsNext := by
  intro s w i _ hd
  have hpins := pinSample_placeCommand (tableWord 16 w) s
  have hstep := stepRunsDecodedCommand (placeCommand (tableWord 16 w) s) (tableWord 16 w) i s.host rfl
    (by rw [hpins]) rfl (decode_tableWord hd)
  rw [hpins] at hstep
  exact ⟨_, hstep, rfl⟩

/-! ### The illegal word -/

/-- A word with a reserved bit set or an opcode above 9 is illegal (30_encoding R89). -/
theorem decode_of_illegal_field {w : Word} (h : w.extractLsb' 4 12 ≠ 0 ∨ 0xA ≤ (w.extractLsb' 0 4).toNat) :
    decode w = none := by
  have hrsv : (w.extractLsb' 4 12).toNat = w.toNat / 16 := by
    rw [BitVec.extractLsb'_toNat, Nat.shiftRight_eq_div_pow]
    omega
  have hop : (w.extractLsb' 0 4).toNat = w.toNat % 16 := by rw [BitVec.extractLsb'_toNat, Nat.shiftRight_zero]
  rw [decode_eq_none_iff]
  rcases h with h | h
  · have hpos : (w.extractLsb' 4 12).toNat ≠ 0 := fun h0 => h (BitVec.eq_of_toNat_eq h0)
    omega
  · omega

/-- States with the same record S have it after CmdError too. -/
theorem sameS_raiseCmdError (h : SameS s t) : SameS (raiseCmdError s) (raiseCmdError t) :=
  congrArg raiseCmdError h

/-! ### The sticky flag -/

@[simp] theorem cycleBeforeWrite_cmdErr (s : State) : (cycleBeforeWrite s).cmdErr = s.cmdErr := by
  obtain ⟨_, _, _, _, _, _, _, _, _, _, _, _, _, _, h⟩ := engineStep_frame (wake s) (deliverPc s)
    (wakePhases (pinSample s).pcint (takePort s))
  rw [cycleBeforeWrite, h]
  rfl

@[simp] theorem writeReg_cmdErr (s : State) (v : Word) (r : Reg) : (writeReg s v r).cmdErr = s.cmdErr := by
  cases r <;> rfl

/-- No command writes the error flag (40_dispatch R103). -/
theorem exec_cmdErr {i : Instr} (h : exec i s = .next t) : t.cmdErr = s.cmdErr := by
  cases i with
  | sleep =>
    cases h
    split <;> rfl
  | _ => cases h; rfl

/-- Executing a word keeps a raised flag: a legal word does not write it, and an illegal one raises it again. -/
theorem execute_keeps_cmdErr {w : Word} (hs : s.cmdErr = true) (h : execute w s = .next t) : t.cmdErr = true := by
  cases hd : decode w with
  | some i => exact (exec_cmdErr (execute_of_decode hd ▸ h)).trans hs
  | none =>
    rw [execute_of_illegal hd] at h
    cases h
    exact raiseCmdError_cmdErr s

/-- An accepted write keeps a raised flag, whether it executes a word or writes a register (20_memory R63). -/
theorem regWrite_keeps_cmdErr {a : RegAddr} {v : Word} (hs : s.cmdErr = true) (h : regWrite a v s = .next t) :
    t.cmdErr = true := by
  by_cases ha : a = 0xA
  · subst ha
    exact execute_keeps_cmdErr hs (regWrite_cmd v ▸ h)
  · rw [regWrite_of_ne_cmd v ha] at h
    cases h
    exact (writeReg_cmdErr s v _).trans hs

/-- Only a reset cycle clears the error flag (40_dispatch R103). -/
theorem step_keeps_cmdErr (h : step s = .next t) (hr : (pinSample s).rst = false) (hs : s.cmdErr = true) :
    t.cmdErr = true := by
  rw [← cycleBeforeWrite_cmdErr] at hs
  cases hw : acceptedWrite s with
  | none =>
    cases (step_of_no_write hr hw).symm.trans h
    exact hs
  | some r => exact regWrite_keeps_cmdErr hs ((step_of_write hw).symm.trans h)

/-- Settles O9: the cycle of an illegal word raises CmdError on the state of a silent cycle, and every cycle but a reset
keeps the flag. -/
theorem illegalWordOnlySetsStickyCmdErr : Obligations.IllegalWordOnlySetsStickyCmdErr := by
  refine ⟨fun s w hw hfield => ?_, fun s t => step_keeps_cmdErr⟩
  obtain ⟨-, hr, -⟩ := acceptedWrite_eq_some_iff.mp hw
  have hstep : step s = .next (raiseCmdError (cycleBeforeWrite s)) :=
    (step_of_cmd_write hw).trans (execute_of_illegal (decode_of_illegal_field hfield))
  have hsilent : step { s with host := [] } = .next (cycleBeforeWrite { s with host := [] }) :=
    step_of_no_write hr (acceptedWrite_of_silent rfl)
  exact ⟨_, _, hstep, hsilent, sameS_raiseCmdError (sameS_cycleBeforeWrite_silent s)⟩

end Sys2Proof.Machine
end

section
/-!
The checksum and the frame (41_checksum_frame): each of them as a number (R121 to R130), what BUILD and CKSUM write
(R123, R131), and the properties of BUILD (R132).
-/

namespace Sys2Proof.Machine

variable {s u : State}

/-! ### The checksum -/

@[simp] theorem hiNibble_toNat (b : Byte) : (hiNibble b).toNat = b.toNat / 16 := by
  have hb := b.isLt
  rw [hiNibble, BitVec.extractLsb'_toNat, Nat.shiftRight_eq_div_pow]
  omega

@[simp] theorem loNibble_toNat (b : Byte) : (loNibble b).toNat = b.toNat % 16 := by
  rw [loNibble, BitVec.extractLsb'_toNat, Nat.shiftRight_zero]

/-- The two reversals agree (00_scope R10). -/
theorem rev4_toNat : ∀ x : Nibble, (rev4 x).toNat = reverseFour x.toNat := by decide

/-- Dropping the overflow at every step is the sum mod 16 (41_checksum_frame R122 item 2), from any value on. -/
theorem foldl_add_toNat (l : List Nibble) (acc : Nibble) :
    (l.foldl (· + ·) acc).toNat = (acc.toNat + (l.map BitVec.toNat).sum) % 16 := by
  induction l generalizing acc with
  | nil => exact (Nat.mod_eq_of_lt acc.isLt).symm
  | cons x l ih =>
    rw [List.foldl_cons, ih, BitVec.toNat_add, List.map_cons, List.sum_cons]
    omega

theorem nibbleSum_toNat (l : List Nibble) : (nibbleSum l).toNat = (l.map BitVec.toNat).sum % 16 := by
  simp [nibbleSum, foldl_add_toNat]

/-- The order of the nibbles does not matter (41_checksum_frame R122 item 3). -/
theorem nibbleSum_eq_of_perm {l l' : List Nibble} (h : l.Perm l') : nibbleSum l = nibbleSum l' := by
  refine BitVec.eq_of_toNat_eq ?_
  rw [nibbleSum_toNat, nibbleSum_toNat, (h.map BitVec.toNat).sum_eq]

theorem nibbleSum_nibblesOf_toNat (b0 b1 b2 b3 : Byte) :
    (nibbleSum (nibblesOf b0 b1 b2 b3)).toNat = sumOfNibbles b0 b1 b2 b3 % 16 := by
  simp [nibbleSum_toNat, nibblesOf, sumOfNibbles, Nat.add_assoc]

theorem checksum32_toNat (b0 b1 b2 b3 : Byte) :
    (checksum32 b0 b1 b2 b3).toNat = reverseFour (sumOfNibbles b0 b1 b2 b3 % 16) := by
  rw [checksum32, rev4_toNat, nibbleSum_nibblesOf_toNat]

/-- The receiver's check (41_checksum_frame R122 item 5). -/
theorem rev4_checksum32 (b0 b1 b2 b3 : Byte) :
    rev4 (checksum32 b0 b1 b2 b3) = nibbleSum (nibblesOf b0 b1 b2 b3) := by
  rw [checksum32, rev4_rev4]

/-- Settles O26: the checksum reverses a sum that is taken mod 16 and does not depend on the order. -/
theorem checksumLaws : Obligations.ChecksumLaws := by
  refine ⟨checksum32_toNat, fun b0 b1 b2 b3 c0 c1 c2 c3 h => ?_, fun b0 b1 b2 b3 => ?_, rfl⟩
  · rw [checksum32, checksum32, nibbleSum_eq_of_perm h]
  · rw [rev4_checksum32, nibbleSum_nibblesOf_toNat]

/-! ### CKSUM -/

@[simp] theorem checksumByte_toNat : ∀ c : Nibble, (checksumByte c).toNat = 16 * c.toNat := by decide

theorem checksumByte_low_nibble (c : Nibble) : (checksumByte c).toNat % 16 = 0 := by
  rw [checksumByte_toNat, Nat.mul_mod_right]

/-- CKSUM from any state (41_checksum_frame R123). -/
theorem exec_cksum (s : State) : exec .cksum s = .next { s with frame := { s.frame with
    b4 := checksumByte (checksum32 s.frame.b0 s.frame.b1 s.frame.b2 s.frame.b3) } } := rfl

/-- CKSUM changes nothing where the fifth byte is the checksum byte already. -/
theorem exec_cksum_eq_self
    (h : s.frame.b4 = checksumByte (checksum32 s.frame.b0 s.frame.b1 s.frame.b2 s.frame.b3)) :
    exec .cksum s = .next s := by
  rw [exec_cksum, ← h]

/-- Settles O24: the byte is 16 times the checksum. -/
theorem cksumWritesStatedByte : Obligations.CksumWritesStatedByte := by
  intro s
  refine ⟨_, exec_cksum s, ?_⟩
  rw [checksumByte_toNat, checksum32_toNat]

/-! ### The bytes of a reading -/

/-- A field at bit `i` above one that ends below it, as a number, at any width. -/
theorem shiftLeft_or_toNat {w : Nat} {x y : BitVec w} (i : Nat) (hx : 2 ^ i * x.toNat < 2 ^ w)
    (hy : y.toNat < 2 ^ i) : (x <<< i ||| y).toNat = 2 ^ i * x.toNat + y.toNat := by
  rw [BitVec.toNat_or, BitVec.toNat_shiftLeft, Nat.shiftLeft_eq, Nat.mul_comm, Nat.mod_eq_of_lt hx,
    Nat.two_pow_add_eq_or_of_lt hy]

/-- The identity byte as a number (41_checksum_frame R127). -/
theorem identityByte_toNat (devId : BitVec 6) (chan : BitVec 2) :
    (identityByte devId chan).toNat = devId.toNat / 4 * 16 + chan.toNat * 4 + devId.toNat % 4 := by
  have hdev := devId.isLt
  have hchan := chan.isLt
  have hhigh : ((devId.extractLsb' 2 4).zeroExtend 8).toNat = devId.toNat / 4 := by
    rw [BitVec.toNat_setWidth_of_le (by decide), BitVec.extractLsb'_toNat, Nat.shiftRight_eq_div_pow]
    omega
  have hmid : (chan.zeroExtend 8).toNat = chan.toNat := BitVec.toNat_setWidth_of_le (by decide)
  have hlow : ((devId.extractLsb' 0 2).zeroExtend 8).toNat = devId.toNat % 4 := by
    rw [BitVec.toNat_setWidth_of_le (by decide), BitVec.extractLsb'_toNat, Nat.shiftRight_zero]
  have h2 := shiftLeft_or_toNat (x := chan.zeroExtend 8) (y := (devId.extractLsb' 0 2).zeroExtend 8) 2
    (by omega) (by omega)
  rw [identityByte, BitVec.or_assoc, shiftLeft_or_toNat 4 (by omega) (by omega), h2, hhigh, hmid, hlow]
  omega

/-- The inverse R127 gives for the identity byte (41_checksum_frame R127). -/
theorem identityByte_fields (devId : BitVec 6) (chan : BitVec 2) :
    (identityByte devId chan).toNat / 16 * 4 + (identityByte devId chan).toNat % 4 = devId.toNat ∧
      (identityByte devId chan).toNat / 4 % 4 = chan.toNat := by
  have hchan := chan.isLt
  rw [identityByte_toNat]
  omega

theorem identityByte_eq_iff {d d' : BitVec 6} {c c' : BitVec 2} :
    identityByte d c = identityByte d' c' ↔ d = d' ∧ c = c' := by
  constructor
  · intro h
    obtain ⟨hd, hc⟩ := identityByte_fields d c
    obtain ⟨hd', hc'⟩ := identityByte_fields d' c'
    rw [h] at hd hc
    exact ⟨BitVec.eq_of_toNat_eq (hd.symm.trans hd'), BitVec.eq_of_toNat_eq (hc.symm.trans hc')⟩
  · rintro ⟨rfl, rfl⟩
    rfl

/-- R126's loop reverses the four low bits of the temperature (41_checksum_frame R126). -/
theorem tempNibble_reversed (temp : Word) :
    tempNibble .reversed temp = (rev4 (temp.extractLsb' 0 4)).zeroExtend 8 := by
  have hbits : ∀ x : Nibble, [0, 1, 2, 3].foldl
      (fun (nib : Byte) i => if x.getLsbD i then nib ||| 1 <<< (3 - i) else nib) 0 = (rev4 x).zeroExtend 8 := by decide
  rw [← hbits]
  simp [tempNibble]

/-- The flags byte as a number (41_checksum_frame R126). -/
theorem flagsByte_toNat (battOk : Bool) (temp : Word) : (flagsByte .reversed battOk temp).toNat =
    (if battOk then 0 else 128) + (rev4 (temp.extractLsb' 0 4)).toNat := by
  have hbytes : ∀ (b : Bool) (x : Nibble), ((BitVec.ofBool !b).zeroExtend 8 <<< 7 ||| x.zeroExtend 8 : Byte).toNat =
      (if b then 0 else 128) + x.toNat := by decide
  rw [flagsByte, tempNibble_reversed, hbytes]

theorem rev4_extractLsb'_toNat (temp : Word) :
    (rev4 (temp.extractLsb' 0 4)).toNat = reverseFour (temp.toNat % 16) := by
  rw [rev4_toNat, BitVec.extractLsb'_toNat, Nat.shiftRight_zero]

/-- Bits 6..4 of the flags byte are reserved (41_checksum_frame R126). -/
theorem flagsByte_reserved_bits (battOk : Bool) (temp : Word) :
    (flagsByte .reversed battOk temp).toNat / 16 % 8 = 0 := by
  have hnib := (rev4 (temp.extractLsb' 0 4)).isLt
  rw [flagsByte_toNat]
  split <;> omega

theorem flagsByte_eq_iff {b b' : Bool} {temp temp' : Word} :
    flagsByte .reversed b temp = flagsByte .reversed b' temp' ↔ b = b' ∧ temp.toNat % 16 = temp'.toNat % 16 := by
  have hlow : ∀ v : Word, (v.extractLsb' 0 4).toNat = v.toNat % 16 := fun v => by
    rw [BitVec.extractLsb'_toNat, Nat.shiftRight_zero]
  have hrev : Function.Injective rev4 := Function.LeftInverse.injective rev4_rev4
  have hlt := (rev4 (temp.extractLsb' 0 4)).isLt
  have hlt' := (rev4 (temp'.extractLsb' 0 4)).isLt
  rw [← hlow, ← hlow, BitVec.toNat_inj, ← hrev.eq_iff, ← BitVec.toNat_inj, ← BitVec.toNat_inj, flagsByte_toNat,
    flagsByte_toNat]
  have hflag : b = b' ↔ (if b then 0 else 128) = if b' then 0 else 128 := by cases b <;> cases b' <;> decide
  rw [hflag]
  split <;> split <;> omega

/-- The bias leaves the twelve low bits of the temperature (41_checksum_frame R125). -/
theorem biasedTemp_emod (temp : Word) : biasedTemp temp % 4096 = (temp.toNat % 4096 : Nat) := by
  have htemp := temp.isLt
  rw [biasedTemp, BitVec.toInt_eq_toNat_cond]
  omega

/-- The temperature byte as a number (41_checksum_frame R129). -/
theorem tempByte_toNat (temp : Word) : (tempByte temp).toNat = temp.toNat % 4096 / 16 := by
  have h12 : (temp12 temp).toNat = temp.toNat % 4096 := by
    rw [temp12, BitVec.toNat_ofInt]
    exact congrArg Int.toNat (biasedTemp_emod temp)
  rw [tempByte, BitVec.extractLsb'_toNat, h12, Nat.shiftRight_eq_div_pow]
  omega

/-- The humidity byte as a number (41_checksum_frame R128). -/
theorem humByte_toNat (hum : Word) : (humByte hum).toNat = (hum.toNat + 156) % 256 := BitVec.toNat_ofNat _ _

/-! ### BUILD -/

/-- BUILD from any state (41_checksum_frame R131). -/
theorem exec_build (s : State) :
    exec .build s = .next { s with frame := buildFrame .reversed s, flen := 36 } := rfl

/-- Settles O22: the numbers of the five bytes. -/
theorem buildWritesStatedFrame : Obligations.BuildWritesStatedFrame := by
  intro s
  refine ⟨_, exec_build s, identityByte_toNat _ _, ?_, ?_, humByte_toNat _, ?_⟩
  · exact (flagsByte_toNat _ _).trans (by rw [rev4_extractLsb'_toNat])
  · have hb := biasedTemp_emod s.temp
    rw [biasedTemp] at hb
    rw [hb]
    exact congrArg Nat.cast (tempByte_toNat s.temp)
  · exact (checksumByte_toNat _).trans (by rw [checksum32_toNat]; rfl)

/-- The fifth byte of a frame is a function of the other four (41_checksum_frame R130). -/
theorem buildFrame_eq_iff_bytes {o : Config.NibbleOrder} : buildFrame o s = buildFrame o u ↔
    identityByte s.devId s.chan = identityByte u.devId u.chan ∧
    flagsByte o s.battOk s.temp = flagsByte o u.battOk u.temp ∧ tempByte s.temp = tempByte u.temp ∧
    humByte s.hum = humByte u.hum := by
  constructor
  · intro h
    simp only [buildFrame, Frame.mk.injEq] at h
    obtain ⟨h0, h1, h2, h3, -⟩ := h
    exact ⟨h0, h1, h2, h3⟩
  · rintro ⟨h0, h1, h2, h3⟩
    rw [buildFrame, buildFrame, h0, h1, h2, h3]

/-- What of a reading a frame carries (41_checksum_frame R132 item 5). -/
theorem buildFrame_eq_iff : buildFrame .reversed s = buildFrame .reversed u ↔
    s.devId = u.devId ∧ s.chan = u.chan ∧ s.battOk = u.battOk ∧
      s.temp.toNat % 4096 = u.temp.toNat % 4096 ∧ s.hum.toNat % 256 = u.hum.toNat % 256 := by
  rw [buildFrame_eq_iff_bytes, identityByte_eq_iff, flagsByte_eq_iff, ← BitVec.toNat_inj (x := tempByte _),
    ← BitVec.toNat_inj (x := humByte _), tempByte_toNat, tempByte_toNat, humByte_toNat, humByte_toNat, and_assoc,
    and_assoc]
  refine and_congr_right' (and_congr_right' (and_congr_right' ?_))
  omega

/-- Settles O23: items 1, 3 and 4 hold byte by byte, and item 2 is a case of item 5. -/
theorem buildProperties : Obligations.BuildProperties := by
  intro s u t v ht hu
  cases ht
  cases hu
  refine ⟨rfl, fun hs hsu => ?_, identityByte_fields s.devId s.chan,
    ⟨flagsByte_reserved_bits s.battOk s.temp, checksumByte_low_nibble _⟩, buildFrame_eq_iff⟩
  subst hsu
  exact buildFrame_eq_iff.mpr ⟨rfl, rfl, rfl, by simp [hs], rfl⟩

/-- Settles O25: the fifth byte of BUILD's frame is the checksum byte of its own four bytes. -/
theorem cksumAfterBuildIsIdentity : Obligations.CksumAfterBuildIsIdentity := by
  intro s t h
  cases h
  exact exec_cksum_eq_self rfl

end Sys2Proof.Machine
end

section
/-!
The transmitter (42_transmitter): the frame stream (R141), what its commands and its step do (R143 to R153), that a
cycle of a transmission is a step of the transmitter whatever else happens in it (R142, R156), and the waveforms of the
transmissions, cycle by cycle (R154, R155).
-/

namespace Sys2Proof.Machine

variable {s t u e : State}

/-! ### The frame stream -/

/-- A frame bit that exists is a bit of its byte (42_transmitter R141). -/
theorem some_frameBit (f : Frame) {k : Nat} (hk : k < 40) :
    some (frameBit f k) = f.bytes[k / 8]?.map (fun b => b.getLsbD (7 - k % 8)) := by
  have hbyte : k / 8 < f.bytes.length := by
    rw [show f.bytes.length = 5 from rfl]
    omega
  simp [frameBit, List.getElem?_eq_getElem hbyte]

/-- The bytes one after the other, as one vector, most significant bit first (41_checksum_frame R124). -/
theorem bytes_append_getMsbD (b0 b1 b2 b3 b4 : Byte) {q r : Nat} (hq : q < 5) (hr : r < 8) :
    some ((b0 ++ b1 ++ b2 ++ b3 ++ b4).getMsbD (8 * q + r)) =
      [b0, b1, b2, b3, b4][q]?.map (fun b => b.getLsbD (7 - r)) := by
  have hmsb (b : Byte) : b.getMsbD r = b.getLsbD (7 - r) := by simp [BitVec.getMsbD_eq_getLsbD, hr]
  interval_cases q <;> simp (disch := omega) only [BitVec.getMsbD_append, if_pos, if_neg] <;> simp [hmsb]

/-- Settles O27: both forms read bit `7 - k mod 8` of byte `k / 8`. -/
theorem frameBitsAreMsbFirst : Obligations.FrameBitsAreMsbFirst := by
  intro f k hk
  have hbit := some_frameBit f hk
  refine ⟨hbit, Option.some_injective _ ?_⟩
  have hmsb := bytes_append_getMsbD f.b0 f.b1 f.b2 f.b3 f.b4 (q := k / 8) (r := k % 8) (by omega) (by omega)
  rw [Nat.div_add_mod] at hmsb
  exact hbit.trans hmsb.symm

/-! ### The transmit commands -/

/-- Settles O28: the lead is loaded with T_LEAD, which is 1. -/
theorem sendFrameStartsLead : Obligations.SendFrameStartsLead := fun _ => rfl

/-- Settles O29: the count is the length the sync segment is loaded with, which fits it. -/
theorem sendSyncStartsSync : Obligations.SendSyncStartsSync :=
  fun s => ⟨cycles s.params.tSync, cycles_tSync s.params, rfl⟩

/-- Settles O30: the count is the length the pulse segment is loaded with, which fits it. -/
theorem sendBitStartsPulse : Obligations.SendBitStartsPulse :=
  fun s => ⟨cycles s.params.tDummy, cycles_tDummy s.params, rfl, rfl⟩

/-! ### The step of the transmitter, case by case -/

theorem txStep_of_running (h : 1 < s.cnt.toNat) : txStep s = { s with cnt := s.cnt - 1 } := if_pos h

theorem txStep_of_last (h : s.cnt = 1) : txStep s = endSegment s := if_neg (by simp [h])

theorem endSegment_of_lead (h : s.phase = .lead) : endSegment s = startSync s := by simp [endSegment, h]

theorem endSegment_of_pulse (h : s.phase = .pulse) : endSegment s = endPulse s := by simp [endSegment, h]

/-- The last segment of a symbol ends it (42_transmitter R145). -/
theorem endSegment_of_symbol (hp : s.phase = .sync ∨ s.phase = .hold) (hm : s.mode = .txSym) :
    endSegment s = endSymbol s := by
  rcases hp with hp | hp <;> simp [endSegment, hp, hm]

/-- After a sync or a bit of a frame comes what is next in the frame (42_transmitter R145). -/
theorem endSegment_of_frame (hp : s.phase = .sync ∨ s.phase = .hold) (hm : s.mode = .txFrame) :
    endSegment s = nextInFrame s := by
  rcases hp with hp | hp <;> simp [endSegment, hp, hm]

theorem nextInFrame_of_bit_left (h : nextBitIdx s < s.flen.toNat) : nextInFrame s =
    startBit (frameBit s.frame (nextBitIdx s)) { s with bitIdx := BitVec.ofNat 6 (nextBitIdx s) } := if_pos h

theorem nextInFrame_of_no_bit_left (h : s.flen.toNat ≤ nextBitIdx s) : nextInFrame s = endRepeat s :=
  if_neg (Nat.not_lt.mpr h)

theorem endRepeat_of_repeat_left (h : s.rep.toNat + 1 < 3) :
    endRepeat s = startSync { s with rep := s.rep + 1, bitIdx := 0 } := if_pos h

theorem endRepeat_of_last (h : 3 ≤ s.rep.toNat + 1) : endRepeat s = endFrame s := if_neg (Nat.not_lt.mpr h)

/-! ### A cycle of a transmission -/

/-- The cycle of a transmission is a step of the transmitter after phases 1 to 4, with no write (10_state R40). -/
theorem step_of_isTx (hm : s.mode.isTx) (hr : (pinSample s).rst = false) :
    step s = .next (txStep (wakePhases (pinSample s).pcint (takePort s))) := by
  have hbusy : s.mode ≠ .idle := by rcases hm with h | h <;> simp [h]
  rw [step_of_no_write hr (acceptedWrite_of_busy hbusy)]
  rcases hm with h | h <;> simp [cycleBeforeWrite, engineStep, h]

/-- At the end of a sync or of a data bit, the index of the bit after it (42_transmitter R148). -/
theorem nextBitIdx_eq {nxt : Nat}
    (h : (s.phase = .sync ∧ nxt = 0) ∨ (s.phase = .hold ∧ nxt = s.bitIdx.toNat + 1)) :
    (s.phase = .sync ∨ s.phase = .hold) ∧ nextBitIdx s = nxt := by
  rcases h with ⟨hp, rfl⟩ | ⟨hp, rfl⟩ <;> simp [nextBitIdx, hp]

/-- Settles O31: phases 1 to 4 leave the transmitter's fields, and each case is a case of its step. -/
theorem transmitterStep : Obligations.TransmitterStep := by
  intro s hm hr
  have hlast (hc : s.cnt = 1) : txStep (wakePhases (pinSample s).pcint (takePort s)) =
    endSegment (wakePhases (pinSample s).pcint (takePort s)) := txStep_of_last hc
  refine ⟨wakePhases (pinSample s).pcint (takePort s), _, sameS_wakePhases_takePort _ s, rfl, step_of_isTx hm hr,
    fun hc => txStep_of_running hc, fun hc hp => (hlast hc).trans (endSegment_of_lead hp),
    fun hc hp => (hlast hc).trans (endSegment_of_pulse hp),
    fun hc hp hsym => (hlast hc).trans (endSegment_of_symbol hp hsym), fun hc hframe nxt hnxt => ?_⟩
  obtain ⟨hp, rfl⟩ := nextBitIdx_eq hnxt
  have hnext := (hlast hc).trans (endSegment_of_frame hp hframe)
  exact ⟨fun hlt => hnext.trans (nextInFrame_of_bit_left hlt),
    fun hle hrep => (hnext.trans (nextInFrame_of_no_bit_left hle)).trans (endRepeat_of_repeat_left hrep),
    fun hle hrep => (hnext.trans (nextInFrame_of_no_bit_left hle)).trans (endRepeat_of_last hrep)⟩

/-! ### Nothing else of the block disturbs a transmission -/

/-- `p` with everything the transmitter is made of or reads (42_transmitter R140) as in `s`. -/
def withTransmission (p s : State) : State :=
  { p with
    params := s.params, frame := s.frame, flen := s.flen, mode := s.mode, pin := s.pin, pol := s.pol,
    phase := s.phase, cnt := s.cnt, rep := s.rep, bitIdx := s.bitIdx, sym := s.sym }

theorem sameTransmission_withTransmission (p s : State) : SameTransmission s (withTransmission p s) :=
  ⟨rfl, rfl, rfl, rfl, rfl, rfl, rfl, rfl, rfl, rfl, rfl⟩

theorem SameTransmission.eq_withTransmission (h : SameTransmission s u) : u = withTransmission u s := by
  obtain ⟨h1, h2, h3, h4, h5, h6, h7, h8, h9, h10, h11⟩ := h
  simp only [withTransmission, h1, h2, h3, h4, h5, h6, h7, h8, h9, h10, h11]

theorem SameTransmission.mode (h : SameTransmission s t) : t.mode = s.mode :=
  (congrArg State.mode h.eq_withTransmission :)

theorem SameTransmission.pin (h : SameTransmission s t) : t.pin = s.pin := (congrArg State.pin h.eq_withTransmission :)

theorem SameTransmission.pol (h : SameTransmission s t) : t.pol = s.pol := (congrArg State.pol h.eq_withTransmission :)

theorem SameTransmission.rep (h : SameTransmission s t) : t.rep = s.rep := (congrArg State.rep h.eq_withTransmission :)

theorem SameTransmission.bitIdx (h : SameTransmission s t) : t.bitIdx = s.bitIdx :=
  (congrArg State.bitIdx h.eq_withTransmission :)

theorem SameTransmission.refl (s : State) : SameTransmission s s := sameTransmission_withTransmission s s

theorem SameTransmission.symm (h : SameTransmission s u) : SameTransmission u s := by
  rw [h.eq_withTransmission]
  exact sameTransmission_withTransmission s (withTransmission u s)

theorem SameTransmission.trans (h : SameTransmission s t) (h' : SameTransmission t u) : SameTransmission s u := by
  rw [h'.eq_withTransmission, h.eq_withTransmission]
  exact sameTransmission_withTransmission _ s

theorem endRepeat_withTransmission (p s : State) :
    endRepeat (withTransmission p s) = withTransmission p (endRepeat s) := by
  rw [endRepeat, endRepeat, apply_ite (withTransmission p)]
  rfl

theorem nextInFrame_withTransmission (p s : State) :
    nextInFrame (withTransmission p s) = withTransmission p (nextInFrame s) := by
  rw [nextInFrame, nextInFrame, endRepeat_withTransmission, apply_ite (withTransmission p)]
  rfl

theorem endSegment_withTransmission (p s : State) :
    endSegment (withTransmission p s) = withTransmission p (endSegment s) := by
  have hnext : (if s.mode = .txSym then endSymbol (withTransmission p s) else nextInFrame (withTransmission p s)) =
      withTransmission p (if s.mode = .txSym then endSymbol s else nextInFrame s) := by
    rw [nextInFrame_withTransmission, apply_ite (withTransmission p)]
    rfl
  rw [endSegment, endSegment, show (withTransmission p s).phase = s.phase from rfl,
    show (withTransmission p s).mode = s.mode from rfl]
  cases s.phase with
  | none | lead | pulse => rfl
  | sync | hold => exact hnext

/-- The step of the transmitter reads and writes the transmission only (42_transmitter R140). -/
theorem txStep_withTransmission (p s : State) : txStep (withTransmission p s) = withTransmission p (txStep s) := by
  rw [txStep, txStep, endSegment_withTransmission, apply_ite (withTransmission p)]
  rfl

theorem SameTransmission.txStep (h : SameTransmission s u) : SameTransmission (txStep s) (txStep u) := by
  rw [h.eq_withTransmission, txStep_withTransmission]
  exact sameTransmission_withTransmission u _

/-- A cycle of a transmission does to it what the transmitter's step does, and takes one sample (42_transmitter
R142). -/
theorem exists_step_of_isTx (hm : s.mode.isTx) (hr : (pinSample s).rst = false) :
    ∃ t, step s = .next t ∧ SameTransmission (txStep s) t ∧ t.pins = s.pins.tail := by
  have hsame : SameTransmission s (wakePhases (pinSample s).pcint (takePort s)) :=
    sameTransmission_withTransmission (wakePhases (pinSample s).pcint (takePort s)) s
  refine ⟨_, step_of_isTx hm hr, hsame.txStep, ?_⟩
  rw [txStep_frame]
  rfl

/-- Settles O32: both cycles do to the transmission what the transmitter's step does, which reads nothing else. -/
theorem transmissionIsUndisturbed : Obligations.TransmissionIsUndisturbed := by
  intro s u t v hm hsame hrs hru hs hu
  have hmu : u.mode.isTx := by rwa [hsame.mode]
  obtain ⟨t', hs', ht, -⟩ := exists_step_of_isTx hm hrs
  obtain ⟨v', hu', hv, -⟩ := exists_step_of_isTx hmu hru
  cases hs'.symm.trans hs
  cases hu'.symm.trans hu
  exact ht.symm.trans (hsame.txStep.trans hv)

/-! ### Runs of a transmission -/

/-- The transmitter, stepping from `s` to `e`, drives the levels listed, one per step, in states that meet `Q`. -/
inductive Drives (Q : State → Prop) : List Bool → State → State → Prop
  | done (e : State) : Drives Q [] e e
  | cycle {w : List Bool} {s e : State} (hQ : Q s) (h : Drives Q w (txStep s) e) : Drives Q (s.pin :: w) s e

variable {Q : State → Prop} {w w' : List Bool}

theorem Drives.append (h : Drives Q w s u) (h' : Drives Q w' u e) : Drives Q (w ++ w') s e := by
  induction h with
  | done => exact h'
  | cycle hQ _ ih => exact .cycle hQ (ih h')

/-- The state in the last cycle of the segment that `s` is in (10_state R33). -/
def lastCycle (s : State) : State := { s with cnt := 1 }

/-- A segment holds its level for as many cycles as it is loaded with, and then ends (42_transmitter R145). -/
theorem drives_segment {d : Nat} (hd : 1 ≤ d) (hc : s.cnt.toNat = d)
    (hQ : ∀ u, u.mode = s.mode → u.pol = s.pol → Q u) :
    Drives Q (List.replicate d s.pin) s (endSegment (lastCycle s)) := by
  induction d, hd using Nat.le_induction generalizing s with
  | base =>
    have hone : s.cnt = 1 := BitVec.eq_of_toNat_eq hc
    have hlast : txStep s = endSegment (lastCycle s) := by rw [txStep_of_last hone, lastCycle, ← hone]
    exact .cycle (hQ s rfl rfl) (hlast ▸ .done _)
  | succ d hd ih =>
    have hrunning : txStep s = { s with cnt := s.cnt - 1 } := txStep_of_running (by omega)
    exact .cycle (hQ s rfl rfl) (hrunning ▸ ih (s := { s with cnt := s.cnt - 1 }) (by simp only; bv_omega) hQ)

theorem one_le_tSync (p : Config.Params) : 1 ≤ p.tSync := by
  have := p.tOne_lt_tSync
  omega

/-- A sync holds the inverted polarity, which it tracks, for T_SYNC cycles (42_transmitter R143). -/
theorem drives_sync (hQ : ∀ u, u.mode = s.mode → u.pol = !s.pol → Q u) :
    Drives Q (List.replicate s.params.tSync !s.pol) (startSync s) (endSegment (lastCycle (startSync s))) :=
  drives_segment (s := startSync s) (one_le_tSync _) (cycles_tSync _) hQ

/-- The state in the last cycle of the data bit `b` started in `s`. -/
def lastOfBit (b : Bool) (s : State) : State := lastCycle (endPulse (startBit b s))

/-- A data bit holds the inverted polarity for T_DUMMY cycles and the polarity for T_ZERO or T_ONE cycles
(42_transmitter R144, R146). -/
theorem drives_bit (b : Bool) (hQ : ∀ u, u.mode = s.mode → u.pol = s.pol → Q u) :
    Drives Q (bitWave s.params s.pol b) (startBit b s) (endSegment (lastOfBit b s)) :=
  have hpulse : Drives Q (List.replicate s.params.tDummy !s.pol) (startBit b s) (endPulse (startBit b s)) :=
    drives_segment (s := startBit b s) s.params.one_le_tDummy (cycles_tDummy _) hQ
  hpulse.append (drives_segment (s := endPulse (startBit b s)) (holdCycles_bounds _ b).1 (cycles_holdCycles _ b) hQ)

/-- The samples of a run without reset: the first one's cycle, and the rest. -/
theorem noReset_succ_iff {n : Nat} :
    NoReset (n + 1) s ↔ (pinSample s).rst = false ∧ ∀ p ∈ s.pins.tail.take n, p.rst = false := by
  cases hp : s.pins <;> simp [NoReset, pinSample, hp]

/-- The machine drives what the transmitter drives, as long as no reset comes (42_transmitter R142). -/
theorem Drives.run (h : Drives Q w s e) (hQ : ∀ u, Q u → u.mode.isTx) (hs : SameTransmission s t)
    (hr : NoReset w.length t) :
    (∀ k < w.length, ∃ v u, runCycles k t = .next u ∧ SameTransmission v u ∧ Q v ∧ w[k]? = some v.pin) ∧
      ∃ u, runCycles w.length t = .next u ∧ SameTransmission e u := by
  induction h generalizing t with
  | done => exact ⟨nofun, t, rfl, hs⟩
  | @cycle w s e hq _ ih =>
    have hm : t.mode.isTx := by
      rw [hs.mode]
      exact hQ s hq
    obtain ⟨hrst, hrest⟩ := noReset_succ_iff.mp hr
    obtain ⟨u, hu, hsame, hpins⟩ := exists_step_of_isTx hm hrst
    obtain ⟨hbusy, hend⟩ := ih (hs.txStep.trans hsame) (by rwa [NoReset, hpins])
    rw [List.length_cons, runCycles_succ_of_step _ hu]
    refine ⟨fun k hk => ?_, hend⟩
    cases k with
    | zero => exact ⟨s, t, rfl, hs, hq, rfl⟩
    | succ k =>
      rw [runCycles_succ_of_step k hu]
      exact hbusy k (by omega)

/-- The state in which an idle block executes the held command at the head of the host's actions (40_dispatch R101). -/
def atAcceptance (rest : List HostAction) (s : State) : State :=
  wakePhases (pinSample s).pcint { s with host := rest, pins := s.pins.tail, reqReady := true, rspRdata := 0 }

/-- The cycle that accepts a command executes it, and the run drives from the next cycle on what the transmitter drives
from the state the command leaves (42_transmitter R150 to R153). -/
theorem Drives.run_of_cmd {i : Instr} {rest : List HostAction} (hm : s.mode = .idle) (hh : s.host = cmd i :: rest)
    (hr : NoReset (w.length + 1) s) (hi : exec i (atAcceptance rest s) = .next u) (hpins : u.pins = s.pins.tail)
    (hQ : ∀ v, Q v → v.mode.isTx) (h : Drives Q w u e) :
    (∀ k < w.length, ∃ v t, runCycles (k + 1) s = .next t ∧ SameTransmission v t ∧ Q v ∧ w[k]? = some v.pin) ∧
      ∃ t, runCycles (w.length + 1) s = .next t ∧ SameTransmission e t := by
  obtain ⟨hrst, hrest⟩ := noReset_succ_iff.mp hr
  have hstep : step s = .next u :=
    (stepRunsDecodedCommand s (encode i) i rest hm hrst hh (decode_encode i)).trans hi
  simp only [runCycles_succ_of_step _ hstep]
  exact h.run hQ (.refl u) (by rwa [NoReset, hpins])

/-! ### The symbols -/

/-- A symbol is being sent at tracked polarity `pol`. -/
def InSymbol (pol : Bool) (s : State) : Prop := s.mode = .txSym ∧ s.pol = pol

theorem InSymbol.isTx {pol : Bool} (h : InSymbol pol s) : s.mode.isTx := .inl h.1

/-- A symbol command's run, cycle by cycle: the levels the transmitter drives, then the idle block. -/
theorem Drives.run_of_symbol_cmd {i : Instr} {rest : List HostAction} {pol : Bool} (hm : s.mode = .idle)
    (hh : s.host = cmd i :: rest) (hr : NoReset (w.length + 1) s) (hi : exec i (atAcceptance rest s) = .next u)
    (hpins : u.pins = s.pins.tail) (h : Drives (InSymbol pol) w u (endSymbol e)) (hpol : e.pol = pol)
    (hpin : e.pin = pol) {k : Nat} (hk : k ≤ w.length) :
    ∃ t, runCycles (k + 1) s = .next t ∧ t.pol = pol ∧ t.pin = w[k]?.getD pol ∧
      t.mode = if k < w.length then .txSym else .idle := by
  obtain ⟨hbusy, t, ht, hsame⟩ := h.run_of_cmd hm hh hr hi hpins fun _ => InSymbol.isTx
  rcases hk.lt_or_eq with hlt | rfl
  · obtain ⟨v, t, ht, hsame, ⟨hvm, hvp⟩, hv⟩ := hbusy k hlt
    refine ⟨t, ht, hsame.pol.trans hvp, ?_, ?_⟩
    · rw [hv, hsame.pin, Option.getD_some]
    · rw [if_pos hlt, hsame.mode, hvm]
  · refine ⟨t, ht, hsame.pol.trans hpol, ?_, ?_⟩
    · rw [List.getElem?_eq_none le_rfl, Option.getD_none, hsame.pin]
      exact hpin
    · rw [if_neg (lt_irrefl _), hsame.mode]
      rfl

/-- Settles O33: the transmission is one sync, which ends the symbol. -/
theorem sendSyncLastsTSync : Obligations.SendSyncLastsTSync := by
  intro s rest hm hh hr k hk
  have hdrives : Drives (InSymbol !s.pol) (List.replicate s.params.tSync !s.pol)
      (startSync (beginSymbol (atAcceptance rest s)))
      (endSymbol (lastCycle (startSync (beginSymbol (atAcceptance rest s))))) := by
    rw [← endSegment_of_symbol (.inl rfl) rfl]
    exact drives_sync (s := beginSymbol (atAcceptance rest s)) fun _ hu hpol => ⟨hu, hpol⟩
  obtain ⟨t, ht, hpol, hpin, hmode⟩ :=
    hdrives.run_of_symbol_cmd hm hh (by simpa using hr) rfl rfl rfl rfl (by simpa using hk)
  refine ⟨t, ht, ?_, hpol, by simpa using hmode⟩
  rw [hpin, List.getElem?_replicate]
  split <;> rfl

theorem bitWave_length (p : Config.Params) (pol b : Bool) : (bitWave p pol b).length = p.tDummy + holdCycles p b := by
  simp [bitWave]

/-- The level of a data bit in each of its cycles, and its polarity after them (42_transmitter R152). -/
theorem bitWave_getD (p : Config.Params) (pol b : Bool) (k : Nat) :
    (bitWave p pol b)[k]?.getD pol = if k < p.tDummy then !pol else pol := by
  simp only [bitWave, List.getElem?_append, List.length_replicate, List.getElem?_replicate]
  split
  · rfl
  · split <;> rfl

/-- What either of the two commands does (42_transmitter R152, R153). -/
theorem exec_sendBit (b : Bool) (s : State) :
    exec (if b then .sendOne else .sendZero) s = .next (startBit b (beginSymbol s)) := by
  cases b <;> rfl

/-- Settles O34: the transmission is one data bit, which ends the symbol. -/
theorem sendBitLastsDummyPlusHold : Obligations.SendBitLastsDummyPlusHold := by
  intro s b rest hm hh hr k hk
  have hdrives : Drives (InSymbol s.pol) (bitWave s.params s.pol b) (startBit b (beginSymbol (atAcceptance rest s)))
      (endSymbol (lastOfBit b (beginSymbol (atAcceptance rest s)))) := by
    rw [← endSegment_of_symbol (.inr rfl) rfl]
    exact drives_bit (s := beginSymbol (atAcceptance rest s)) b fun _ hu hpol => ⟨hu, hpol⟩
  have hlen : (bitWave s.params s.pol b).length = s.params.tDummy + if b then s.params.tOne else s.params.tZero :=
    bitWave_length s.params s.pol b
  rw [← hlen] at hr hk ⊢
  obtain ⟨t, ht, hpol, hpin, hmode⟩ := hdrives.run_of_symbol_cmd hm hh hr (exec_sendBit b _) rfl rfl rfl hk
  exact ⟨t, ht, hpol, hpin.trans (bitWave_getD _ _ _ _), hmode⟩

/-! ### The frame -/

/-- A frame is being sent. -/
def InFrame (s : State) : Prop := s.mode = .txFrame

theorem InFrame.isTx (h : InFrame s) : s.mode.isTx := .inr h

/-- The state in the last cycle before frame bit `k` of the repeat whose sync starts in `s`, or, where the frame has no
bit `k`, before the end of the repeat (42_transmitter R148). -/
def lastBefore (s : State) : Nat → State
  | 0 => lastCycle (startSync s)
  | k + 1 => lastOfBit (frameBit s.frame k) { startSync s with bitIdx := BitVec.ofNat 6 k }

section

variable (s : State) (k : Nat)

@[simp] theorem lastBefore_params : (lastBefore s k).params = s.params := by cases k <;> rfl
@[simp] theorem lastBefore_frame : (lastBefore s k).frame = s.frame := by cases k <;> rfl
@[simp] theorem lastBefore_flen : (lastBefore s k).flen = s.flen := by cases k <;> rfl
@[simp] theorem lastBefore_mode : (lastBefore s k).mode = s.mode := by cases k <;> rfl
@[simp] theorem lastBefore_pol : (lastBefore s k).pol = !s.pol := by cases k <;> rfl
@[simp] theorem lastBefore_rep : (lastBefore s k).rep = s.rep := by cases k <;> rfl

end

theorem lastBefore_bitIdx (hb : s.bitIdx = 0) {k : Nat} (hk : k ≤ 64) : (lastBefore s k).bitIdx.toNat = k - 1 := by
  cases k with
  | zero => exact congrArg BitVec.toNat hb
  | succ k => exact Nat.mod_eq_of_lt hk

/-- After the sync comes bit 0, and after each bit the next one (42_transmitter R148). -/
theorem nextBitIdx_lastBefore (s : State) {k : Nat} (hk : k ≤ 64) : nextBitIdx (lastBefore s k) = k := by
  cases k with
  | zero => rfl
  | succ k => exact congrArg (· + 1) (Nat.mod_eq_of_lt hk)

/-- A data bit starts alike after the sync and after another bit (42_transmitter R144). -/
theorem nextInFrame_lastBefore {k : Nat} (hk : k < s.flen.toNat) : nextInFrame (lastBefore s k) =
    startBit (frameBit s.frame k) { startSync s with bitIdx := BitVec.ofNat 6 k } := by
  have hnext := nextBitIdx_lastBefore s (k := k) (by omega)
  rw [nextInFrame_of_bit_left (by simpa [hnext] using hk), hnext]
  cases k <;> rfl

/-- Frame bit `k` of a repeat (42_transmitter R148). -/
theorem drives_frameBit (hm : InFrame s) {k : Nat} (hk : k < s.flen.toNat) :
    Drives InFrame (bitWave s.params (!s.pol) (frameBit s.frame k))
      (nextInFrame (lastBefore s k)) (nextInFrame (lastBefore s (k + 1))) := by
  rw [nextInFrame_lastBefore hk, ← endSegment_of_frame (s := lastBefore s (k + 1)) (.inr rfl) hm]
  exact drives_bit (s := { startSync s with bitIdx := BitVec.ofNat 6 k }) _ fun _ hu _ => hu.trans hm

/-- The first `k` bits of a repeat, each after the one before (42_transmitter R148). -/
theorem drives_frameBits (hm : InFrame s) {k : Nat} (hk : k ≤ s.flen.toNat) :
    Drives InFrame ((List.range k).flatMap fun j => bitWave s.params (!s.pol) (frameBit s.frame j))
      (nextInFrame (lastBefore s 0)) (nextInFrame (lastBefore s k)) := by
  induction k with
  | zero => exact .done _
  | succ k ih =>
    rw [List.range_succ, List.flatMap_append, List.flatMap_singleton]
    exact (ih (by omega)).append (drives_frameBit hm hk)

/-- One repeat: the sync at the inverted polarity, then every bit of the frame (42_transmitter R154). -/
theorem drives_repeat (hm : InFrame s) : Drives InFrame (repeatWave s.params s.frame s.flen.toNat !s.pol)
    (startSync s) (endRepeat (lastBefore s s.flen.toNat)) := by
  have hend : nextInFrame (lastBefore s s.flen.toNat) = endRepeat (lastBefore s s.flen.toNat) :=
    nextInFrame_of_no_bit_left (by rw [nextBitIdx_lastBefore s (by omega), lastBefore_flen])
  have hsync : Drives InFrame (List.replicate s.params.tSync !s.pol) (startSync s) (nextInFrame (lastBefore s 0)) := by
    rw [← endSegment_of_frame (s := lastBefore s 0) (.inl rfl) hm]
    exact drives_sync fun _ hu _ => hu.trans hm
  exact hend ▸ hsync.append (drives_frameBits hm le_rfl)

/-- The state in which the repeat after that of `s` starts (42_transmitter R149). -/
def nextRepeat (s : State) : State := { lastBefore s s.flen.toNat with rep := s.rep + 1, bitIdx := 0 }

@[simp] theorem nextRepeat_params (s : State) : (nextRepeat s).params = s.params := lastBefore_params s _
@[simp] theorem nextRepeat_frame (s : State) : (nextRepeat s).frame = s.frame := lastBefore_frame s _
@[simp] theorem nextRepeat_flen (s : State) : (nextRepeat s).flen = s.flen := lastBefore_flen s _
@[simp] theorem nextRepeat_pol (s : State) : (nextRepeat s).pol = !s.pol := lastBefore_pol s _
@[simp] theorem nextRepeat_rep (s : State) : (nextRepeat s).rep = s.rep + 1 := rfl

theorem InFrame.nextRepeat (hm : InFrame s) : InFrame (nextRepeat s) := (lastBefore_mode s _).trans hm

/-- A repeat that is not the last is followed by another one. -/
theorem drives_repeat_of_left (hm : InFrame s) (hrep : s.rep.toNat + 1 < 3) :
    Drives InFrame (repeatWave s.params s.frame s.flen.toNat !s.pol) (startSync s) (startSync (nextRepeat s)) := by
  have hend := endRepeat_of_repeat_left (s := lastBefore s s.flen.toNat) (by simpa using hrep)
  rw [lastBefore_rep] at hend
  exact hend ▸ drives_repeat hm

/-- The lead and the three repeats, from the first cycle of the lead to the end of the frame (42_transmitter R154). -/
theorem drives_frame (hm : InFrame s) (hp : s.phase = .lead) (hc : s.cnt = 1) (hpin : s.pin = false)
    (hpol : s.pol = false) (hrep : s.rep = 0) :
    Drives InFrame (frameWave s.params s.frame s.flen.toNat) s
      (endFrame (lastBefore (nextRepeat (nextRepeat s)) s.flen.toNat)) := by
  have hlead : Drives InFrame (List.replicate Config.tLead false) s (startSync s) := by
    have hstart : txStep s = startSync s := (txStep_of_last hc).trans (endSegment_of_lead hp)
    rw [← hpin, ← hstart]
    exact .cycle hm (.done _)
  have hfirst := drives_repeat_of_left hm (by simp [hrep])
  have hsecond := drives_repeat_of_left hm.nextRepeat (by simp [hrep])
  have hthird := drives_repeat hm.nextRepeat.nextRepeat
  rw [endRepeat_of_last (by simp [hrep])] at hthird
  simp only [nextRepeat_params, nextRepeat_frame, nextRepeat_flen, nextRepeat_pol, hpol, Bool.not_false,
    Bool.not_true] at hfirst hsecond hthird
  exact ((hlead.append hfirst).append hsecond).append hthird

theorem repeatWave_length (p : Config.Params) (f : Frame) (n : Nat) (pol : Bool) : (repeatWave p f n pol).length =
    p.tSync + ((List.range n).map fun k => p.tDummy + holdCycles p (frameBit f k)).sum := by
  simp [repeatWave, List.length_flatMap, bitWave_length]

/-- The waveform is as long as the block is busy (42_transmitter R154). -/
theorem frameWave_length (p : Config.Params) (f : Frame) (n : Nat) : (frameWave p f n).length = frameBusy p f n := by
  simp only [frameWave, frameBusy, List.length_append, List.length_replicate, repeatWave_length, Config.nRepeat]
  omega

/-- Settles O35: the run drives the lead and the three repeats, and the last repeat ends in the stated state. -/
theorem sendFrameDrivesStatedWaveform : Obligations.SendFrameDrivesStatedWaveform := by
  intro s rest hm hh hr
  have hlen := frameWave_length s.params s.frame s.flen.toNat
  rw [← hlen] at hr ⊢
  have hdrives := drives_frame (s := { atAcceptance rest s with
    mode := .txFrame, pin := false, pol := false, phase := .lead, cnt := 1, rep := 0, bitIdx := 0 })
    rfl rfl rfl rfl rfl rfl
  obtain ⟨hbusy, t, ht, hsame⟩ := hdrives.run_of_cmd hm hh hr (sendFrameStartsLead _) rfl fun _ => InFrame.isTx
  refine ⟨rfl, fun k hk => ?_, t, ht, hsame.mode, hsame.pin, hsame.pol, ?_, ?_⟩
  · obtain ⟨v, t, ht, hsame, hv, hlevel⟩ := hbusy k hk
    exact ⟨t, ht, hsame.mode.trans hv, by rwa [hsame.pin]⟩
  · rw [hsame.rep, endFrame_rep, lastBefore_rep, nextRepeat_rep, nextRepeat_rep]
    rfl
  · rw [hsame.bitIdx, endFrame_bitIdx, lastBefore_bitIdx rfl (by omega)]
    change s.flen.toNat - 1 = max s.flen.toNat 1 - 1
    omega

end Sys2Proof.Machine
end

section
/-!
The commands of the Duty-Cycle Scheduler (43_scheduler R171 to R174, R179, R180), and that WDT_SETUP alone configures
the watchdog (R173).
-/

namespace Sys2Proof.Machine

variable {s t : State}

/-! ### The commands at acceptance -/

/-- Settles O36: the index is the argument clamped. -/
theorem wdtSetupConfigures : Obligations.WdtSetupConfigures :=
  fun s => ⟨clampWdtIdx s.arg, clampWdtIdx_toNat s.arg, rfl⟩

/-- SLEEP with ARG = 0 only clears TICKS (43_scheduler R174). -/
theorem exec_sleep_of_zero (h : s.arg = 0) : exec .sleep s = .next { s with ticks := 0 } :=
  congrArg Host.Outcome.next (if_pos h)

/-- SLEEP with any other ARG starts a timed sleep (43_scheduler R174). -/
theorem exec_sleep_of_ne_zero (h : s.arg ≠ 0) :
    exec .sleep s = .next { s with ticks := 0, mode := .tSleep, analogEn := false, halt := true } :=
  congrArg Host.Outcome.next (if_neg h)

/-- Settles O38: the two branches of SLEEP. -/
theorem sleepStartsUnlessZero : Obligations.SleepStartsUnlessZero :=
  fun _ => ⟨exec_sleep_of_zero, exec_sleep_of_ne_zero⟩

/-- Settles O39: the arm of SLEEP_PIN writes these fields. -/
theorem sleepPinArmsPinChange : Obligations.SleepPinArmsPinChange := fun _ => rfl

/-! ### The accepting cycle -/

/-- The cycle that accepts a command's word runs the command on the state of phases 1 to 4 (40_dispatch R101). -/
theorem step_of_command {i : Instr} (h : acceptedWrite s = some { we := true, addr := 0xA, data := encode i }) :
    step s = exec i (wakePhases (pinSample s).pcint (takePort s)) := by
  obtain ⟨-, -, -, hm⟩ := acceptedWrite_eq_some_iff.mp h
  rw [step_of_cmd_write h, execute_of_decode (decode_encode i), cycleBeforeWrite_of_idle hm]

/-- Settles O37: phase 4 sets the flag, which WDT_SETUP does not touch, and phase 6 restarts the count. -/
theorem wdtSetupKeepsSameCycleTick : Obligations.WdtSetupKeepsSameCycleTick := by
  intro s hw htick
  refine ⟨_, step_of_command (i := .wdtSetup) hw, ?_, rfl⟩
  exact Bool.or_eq_true_iff.mpr (.inl htick)

/-- Settles O40: SLEEP_PIN clears in phase 6 what phase 4 left in PC_IF, and not the sample of phase 1. -/
theorem sleepPinLosesSameCycleEdge : Obligations.SleepPinLosesSameCycleEdge :=
  fun _ hw => ⟨_, step_of_command (i := .sleepPin) hw, rfl, rfl, rfl⟩

/-! ### The watchdog's configuration -/

/-- The two states have the same watchdog configuration (43_scheduler R173). -/
def SameWdtConfig (s t : State) : Prop := t.wdtEn = s.wdtEn ∧ t.wdtIdx = s.wdtIdx

/-- A command other than WDT_SETUP leaves the configuration. -/
theorem exec_sameWdtConfig {i : Instr} (hi : i ≠ .wdtSetup) (h : exec i s = .next t) : SameWdtConfig s t := by
  cases i with
  | wdtSetup => exact absurd rfl hi
  | sleep =>
    cases h
    split <;> exact ⟨rfl, rfl⟩
  | _ => cases h; exact ⟨rfl, rfl⟩

/-- A word other than WDT_SETUP's leaves the configuration, whether it is legal or not. -/
theorem execute_sameWdtConfig {w : Word} (hw : w ≠ encode .wdtSetup) (h : execute w s = .next t) :
    SameWdtConfig s t := by
  cases hd : decode w with
  | some i =>
    refine exec_sameWdtConfig (fun hi => hw ?_) (execute_of_decode hd ▸ h)
    exact hi ▸ decode_eq_some_iff_eq_encode.mp hd
  | none =>
    rw [execute_of_illegal hd] at h
    cases h
    exact ⟨rfl, rfl⟩

theorem writeReg_sameWdtConfig (s : State) (v : Word) (r : Reg) : SameWdtConfig s (writeReg s v r) := by
  cases r <;> exact ⟨rfl, rfl⟩

/-- Of the accepted writes only WDT_SETUP changes the configuration (20_memory R76). -/
theorem regWrite_sameWdtConfig {a : RegAddr} {v : Word} (hav : ¬ (a = 0xA ∧ v = encode .wdtSetup))
    (h : regWrite a v s = .next t) : SameWdtConfig s t := by
  by_cases ha : a = 0xA
  · subst ha
    exact execute_sameWdtConfig (fun hv => hav ⟨rfl, hv⟩) (regWrite_cmd v ▸ h)
  · rw [regWrite_of_ne_cmd v ha] at h
    cases h
    exact writeReg_sameWdtConfig s v _

theorem cycleBeforeWrite_sameWdtConfig (s : State) : SameWdtConfig s (cycleBeforeWrite s) := by
  obtain ⟨_, _, _, _, _, _, _, _, _, _, _, _, _, _, h⟩ := engineStep_frame (wake s) (deliverPc s)
    (wakePhases (pinSample s).pcint (takePort s))
  rw [cycleBeforeWrite, h]
  exact ⟨rfl, rfl⟩

/-- A cycle that neither is a reset nor accepts WDT_SETUP leaves the configuration (43_scheduler R173). -/
theorem step_sameWdtConfig (hr : (pinSample s).rst = false)
    (hw : acceptedWrite s ≠ some { we := true, addr := 0xA, data := encode .wdtSetup }) (h : step s = .next t) :
    SameWdtConfig s t := by
  cases hacc : acceptedWrite s with
  | none =>
    cases (step_of_no_write hr hacc).symm.trans h
    exact cycleBeforeWrite_sameWdtConfig s
  | some r =>
    obtain ⟨we, a, v⟩ := r
    obtain ⟨-, -, rfl, -⟩ := acceptedWrite_eq_some_iff.mp hacc
    obtain ⟨hen, hidx⟩ := cycleBeforeWrite_sameWdtConfig s
    rw [SameWdtConfig, ← hen, ← hidx]
    refine regWrite_sameWdtConfig ?_ ((step_of_write hacc).symm.trans h)
    rintro ⟨rfl, rfl⟩
    exact hw hacc

/-- Settles O51: WDT_SETUP sets the enable, and every other cycle without reset leaves the configuration. -/
theorem onlyWdtSetupConfiguresWatchdog : Obligations.OnlyWdtSetupConfiguresWatchdog := by
  intro s t hr h
  by_cases hw : acceptedWrite s = some { we := true, addr := 0xA, data := 0x7 }
  · cases (step_of_command (i := .wdtSetup) hw).symm.trans h
    exact ⟨fun _ => rfl, fun _ => hw⟩
  · obtain ⟨hen, hidx⟩ := step_sameWdtConfig hr hw h
    exact ⟨hen.trans, fun hne => absurd ⟨hen, hidx⟩ (not_and_or.mpr hne)⟩

end Sys2Proof.Machine
end

section
/-!
What the sleeps share: runs along which a countdown goes down (70_reset_and_hazards R235), deliveries (60_exceptions R197,
R198) and the watchdog's count (60_exceptions R200, R201).
-/

namespace Sys2Proof.Machine

variable {s t u : State}

/-! ### Runs with a countdown -/

/-- Where every cycle takes a countdown `P` down by one, a run of `m` cycles takes it down by `m`. -/
theorem exists_run_of_countdown {P : Nat → State → Prop}
    (hstep : ∀ n s, P (n + 1) s → ∃ t, step s = .next t ∧ P n t) {m n : Nat} (h : P (m + n) s) :
    ∃ t, runCycles m s = .next t ∧ P n t := by
  induction m generalizing s with
  | zero => exact ⟨s, rfl, Nat.zero_add n ▸ h⟩
  | succ m ih =>
    rw [Nat.succ_add] at h
    obtain ⟨u, hu, hP⟩ := hstep (m + n) s h
    rw [runCycles_succ_of_step m hu]
    exact ih hP

/-- A countdown whose states are busy ends, and the run has no end before it does. -/
theorem run_of_busy_countdown {P : Nat → State → Prop}
    (hstep : ∀ n s, P (n + 1) s → ∃ t, step s = .next t ∧ P n t) (hbusy : ∀ n s, P n s → s.mode ≠ .idle)
    {n : Nat} (h : P n s) : (∃ t, runCycles n s = .next t ∧ P 0 t) ∧ endWithin n s = none := by
  refine ⟨exists_run_of_countdown hstep h, endWithin_eq_none_of_busy fun k hk => ?_⟩
  obtain ⟨u, hu, hP⟩ := exists_run_of_countdown (m := k) (n := n - k) hstep (by rwa [Nat.add_sub_cancel' hk])
  exact ⟨u, hu, hbusy _ u hP⟩

/-- One cycle more at the end of a run. -/
theorem runCycles_succ_of_run {n : Nat} (hn : runCycles n s = .next t) (h : step t = .next u) :
    runCycles (n + 1) s = .next u := by
  rw [runCycles_add 1 hn, runCycles_succ_of_step 0 h, runCycles]

/-! ### Deliveries -/

theorem deliverPc_iff : deliverPc s = true ↔ s.gie = true ∧ s.pcIe = true ∧ s.pcIf = true := by
  simp [deliverPc, and_assoc]

/-- An interrupt is delivered when it is enabled and pending (60_exceptions R197). -/
theorem wake_iff : wake s = true ↔
    s.gie = true ∧ (s.wdtIe = true ∧ s.wdtIf = true ∨ s.pcIe = true ∧ s.pcIf = true) := by
  simp [wake, deliverWdt, deliverPc, and_assoc, and_or_left]

/-- A pending watchdog interrupt that is enabled is delivered, so after phases 1 to 4 only a tick of this cycle is
pending (60_exceptions R198). -/
theorem wakePhases_wdtIf_of_enabled (v : Bool) (hg : s.gie = true) (he : s.wdtIe = true) :
    (wakePhases v s).wdtIf = wdtTick s := by
  simp [deliverWdt, hg, he]

/-- A pending pin change that is enabled is delivered, so after phases 1 to 4 only an edge of this cycle is pending
(60_exceptions R198). -/
theorem wakePhases_pcIf_of_enabled (v : Bool) (hg : s.gie = true) (he : s.pcIe = true) :
    (wakePhases v s).pcIf = pcEdge s v := by
  simp [deliverPc, hg, he]

/-! ### The watchdog's count -/

/-- Every period an index can select fits the counter (60_exceptions R200). -/
theorem period_le (p : Config.Params) {i : BitVec 4} (h : i.toNat ≤ 9) : period p i ≤ 2 ^ 24 := by
  rw [period_eq_mul]
  calc p.wdtBase * 2 ^ i.toNat ≤ 32768 * 2 ^ 9 := Nat.mul_le_mul p.wdtBase_le (Nat.pow_le_pow_right (by decide) h)
    _ = 2 ^ 24 := by decide

/-- A stopped watchdog does not tick (60_exceptions R201). -/
theorem wdtTick_of_stopped (h : s.wdtEn = false) : wdtTick s = false := by simp [wdtTick, h]

/-- The tick and the count after a cycle of a running watchdog (60_exceptions R201). -/
theorem wdtTick_and_cnt_cases (hen : s.wdtEn = true) (hidx : s.wdtIdx.toNat ≤ 9)
    (hlt : s.wdtCnt.toNat < period s.params s.wdtIdx) :
    (s.wdtCnt.toNat + 1 = period s.params s.wdtIdx ∧ wdtTick s = true ∧ (wdtCntAfter s).toNat = 0) ∨
    (s.wdtCnt.toNat + 1 < period s.params s.wdtIdx ∧ wdtTick s = false ∧
      (wdtCntAfter s).toNat = s.wdtCnt.toNat + 1) := by
  have hfit := period_le s.params hidx
  by_cases hk : s.wdtCnt.toNat = period s.params s.wdtIdx - 1
  · have htick : wdtTick s = true := by simp [wdtTick, hen, hk]
    exact .inl ⟨by omega, htick, by simp [wdtCntAfter, hen, htick]⟩
  · have htick : wdtTick s = false := by simp [wdtTick, hk]
    refine .inr ⟨by omega, htick, ?_⟩
    rw [wdtCntAfter, if_pos hen, htick]
    exact BitVec.toNat_add_of_lt (by simp; omega)

end Sys2Proof.Machine
end

section
/-!
The timed sleep (43_scheduler R174 to R178): what a cycle of it does, how often it halts, that it lasts for ever with
nothing to wake it, and how long it lasts with only the watchdog to wake it.
-/

namespace Sys2Proof.Machine

variable {s t u : State}

/-! ### A cycle of a timed sleep -/

/-- A wake window lasts one cycle, whatever is delivered in it (43_scheduler R176). -/
theorem tSleepStep_of_window (woken : Bool) (hh : s.halt = false) : tSleepStep woken s = { s with halt := true } := by
  simp [tSleepStep, hh]

/-- A halt period without a wake goes on (43_scheduler R176). -/
theorem tSleepStep_of_asleep (hh : s.halt = true) : tSleepStep false s = s := by simp [tSleepStep, hh]

/-- A wake that is not the last one (43_scheduler R176). -/
theorem tSleepStep_of_wake (hh : s.halt = true) (hk : s.ticks.toNat + 1 < s.arg.toNat) :
    tSleepStep true s = { s with ticks := s.ticks + 1, halt := false } := by
  simp [tSleepStep, hh, hk]

/-- The last wake (43_scheduler R176). -/
theorem tSleepStep_of_last_wake (hh : s.halt = true) (hk : s.arg.toNat ≤ s.ticks.toNat + 1) :
    tSleepStep true s = { s with ticks := s.ticks + 1, halt := false, mode := .idle, analogEn := true } := by
  simp [tSleepStep, hh, hk]

/-- The cycle of a timed sleep is the engine's step after phases 1 to 4, with no write (10_state R40). -/
theorem step_of_tSleep (hm : s.mode = .tSleep) (hr : (pinSample s).rst = false) :
    step s = .next (tSleepStep (wake s) (wakePhases (pinSample s).pcint (takePort s))) := by
  rw [step_of_no_write hr (acceptedWrite_of_busy (by simp [hm]))]
  simp [cycleBeforeWrite, engineStep, hm]

/-- In a cycle without a wake the block halts, or stays halted (43_scheduler R176). -/
theorem step_of_tSleep_no_wake (hm : s.mode = .tSleep) (hr : (pinSample s).rst = false)
    (hw : s.halt = true → wake s = false) :
    step s = .next { wakePhases (pinSample s).pcint (takePort s) with halt := true } := by
  rw [step_of_tSleep hm hr]
  cases hh : s.halt with
  | false => rw [tSleepStep_of_window (s := wakePhases _ (takePort s)) _ hh]
  | true =>
    rw [hw hh, tSleepStep_of_asleep (s := wakePhases _ (takePort s)) hh, ← hh]
    rfl

/-- Settles O41: the engine's step in each of its cases. -/
theorem timedSleepStep : Obligations.TimedSleepStep := by
  intro s hm hr
  refine ⟨_, _, sameS_wakePhases_takePort _ s, step_of_tSleep hm hr, fun hh => ?_, fun hh hw => ?_,
    fun hh hg hw => ?_⟩
  · exact tSleepStep_of_window _ hh
  · rw [← wake_iff, Bool.not_eq_true] at hw
    rw [hw]
    exact tSleepStep_of_asleep hh
  · rw [wake_iff.mpr ⟨hg, hw⟩]
    exact ⟨fun hk => tSleepStep_of_wake hh hk, fun hk => tSleepStep_of_last_wake hh hk⟩

/-- A count below ARG goes up without a wrap (43_scheduler R176). -/
theorem ticks_succ_toNat (h : s.ticks.toNat < s.arg.toNat) : (s.ticks + 1).toNat = s.ticks.toNat + 1 := by
  have harg := s.arg.isLt
  bv_omega

/-- Settles O42: a wake ends the halt and is counted, below ARG and so without a wrap; nothing else is counted. -/
theorem haltEntriesAreCounted : Obligations.HaltEntriesAreCounted := by
  intro s t hinv hm hr h
  obtain ⟨-, -, hk, -⟩ := (stateInv_iff_of_tSleep hm).mp hinv
  have hcount := ticks_succ_toNat hk
  cases (step_of_tSleep hm hr).symm.trans h
  rcases tSleepStep_cases (wake s) (wakePhases (pinSample s).pcint (takePort s)) with
    ⟨hh, ht⟩ | ⟨hh, -, ht⟩ | ⟨hh, -, -, ht⟩ | ⟨hh, -, -, ht⟩ <;>
    rw [wakePhases_halt, takePort_halt] at hh <;> rw [ht]
  · simp [hh]
  · simp [hh]
  · simpa [hh] using hcount
  · simpa [hh] using hcount

/-! ### A timed sleep that nothing can wake -/

theorem steadyPin_succ_iff {n : Nat} : SteadyPin (n + 1) s ↔
    (pinSample s).rst = false ∧ (pinSample s).pcint = s.pcLast ∧
      ∀ p ∈ s.pins.tail.take n, p.rst = false ∧ p.pcint = s.pcLast := by
  cases hp : s.pins <;> simp [SteadyPin, pinSample, hp, and_assoc]

theorem not_wake_of_unwakeable {n : Nat} (hu : Unwakeable n s) (hh : s.halt = true) : wake s = false := by
  rw [← Bool.not_eq_true, wake_iff]
  rintro ⟨hg, hw⟩
  rcases hu with h | ⟨hwdt, hpc⟩
  · simp [h] at hg
  rcases hw with ⟨he, hf⟩ | ⟨he, hf⟩
  · rcases hwdt with h | ⟨-, h⟩
    · simp [h] at he
    · simp [h hh] at hf
  · rcases hpc with h | ⟨-, h⟩
    · simp [h] at he
    · simp [h hh] at hf

/-- Unwakeability of a sleep lasts: with its interrupt enabled, a flag left pending is one of this cycle, and neither a
tick nor an edge comes (43_scheduler R178). -/
theorem unwakeable_next {n : Nat} (hu : Unwakeable (n + 1) s) :
    Unwakeable n { wakePhases (pinSample s).pcint (takePort s) with halt := true } := by
  rcases hu with hg | ⟨hwdt, hpc⟩
  · exact .inl hg
  by_cases hg : s.gie = false
  · exact .inl hg
  rw [Bool.not_eq_false] at hg
  refine .inr ⟨?_, ?_⟩
  · cases he : s.wdtIe with
    | false => exact .inl he
    | true =>
      obtain ⟨hen, -⟩ := hwdt.resolve_left (by simp [he])
      have hflag := wakePhases_wdtIf_of_enabled (s := takePort s) (pinSample s).pcint hg he
      exact .inr ⟨hen, fun _ => hflag.trans (wdtTick_of_stopped hen)⟩
  · cases he : s.pcIe with
    | false => exact .inl he
    | true =>
      obtain ⟨hpins, -⟩ := hpc.resolve_left (by simp [he])
      obtain ⟨-, hlevel, hrest⟩ := steadyPin_succ_iff.mp hpins
      have hflag := wakePhases_pcIf_of_enabled (s := takePort s) (pinSample s).pcint hg he
      refine .inr ⟨?_, fun _ => hflag.trans ?_⟩
      · rw [← hlevel] at hrest
        exact hrest
      · simp [pcEdge, hlevel]

/-- `u` is a cycle of the timed sleep of `s`, and nothing can wake it in the `n` cycles that are left of `m`, of which
that of `s` is the first (43_scheduler R178). -/
def Hangs (s : State) (m n : Nat) (u : State) : Prop :=
  u.mode = .tSleep ∧ NoReset n u ∧ Unwakeable n u ∧ (s.halt = true ∨ n < m → u.halt = true) ∧
    u.analogEn = s.analogEn ∧ u.ticks = s.ticks

/-- A sleep that nothing can wake goes on, halted (43_scheduler R178). -/
theorem step_of_hangs {m n : Nat} (h : Hangs s m (n + 1) u) : ∃ t, step u = .next t ∧ Hangs s m n t := by
  obtain ⟨hm, hr, hu, -, ha, hk⟩ := h
  obtain ⟨hrst, hrest⟩ := noReset_succ_iff.mp hr
  exact ⟨_, step_of_tSleep_no_wake hm hrst (not_wake_of_unwakeable hu),
    hm, hrest, unwakeable_next hu, fun _ => rfl, ha, hk⟩

/-- Settles O44: a sleep that nothing can wake is such a sleep after each cycle, and so never idle. -/
theorem unwakeableSleepHangs : Obligations.UnwakeableSleepHangs := by
  intro s n hm hr hu
  have hstart : Hangs s n n s := ⟨hm, hr, hu, fun h => h.resolve_right (lt_irrefl n), rfl, rfl⟩
  obtain ⟨⟨t, ht, htm, -, -, hh, ha, hk⟩, hend⟩ :=
    run_of_busy_countdown (fun _ _ => step_of_hangs) (fun _ u hu => by simp [hu.1]) hstart
  exact ⟨⟨t, ht, htm, hh, ha, hk⟩, hend⟩

/-! ### A timed sleep that only the watchdog can wake -/

/-- A timed sleep that only the watchdog can wake, in one of its cycles: a pending tick was one of the cycle before, and
none is pending in a wake window (43_scheduler R177). -/
structure WatchdogSleep (s : State) : Prop where
  mode : s.mode = .tSleep
  analogEn : s.analogEn = false
  ticks_lt : s.ticks.toNat < s.arg.toNat
  gie : s.gie = true
  wdtIe : s.wdtIe = true
  pcIe : s.pcIe = false
  wdtEn : s.wdtEn = true
  idx_le : s.wdtIdx.toNat ≤ 9
  cnt_lt : s.wdtCnt.toNat < period s.params s.wdtIdx
  pending : s.wdtIf = true → s.halt = true ∧ s.wdtCnt.toNat = 0

/-- The cycles up to the last wake of such a sleep, this one and that of the wake among them: a period for each wake
after the next one, and what is left before the next one (43_scheduler R177). -/
def cyclesLeft (s : State) : Nat :=
  (s.arg.toNat - s.ticks.toNat - 1) * period s.params s.wdtIdx +
    (if s.wdtIf then 1 else period s.params s.wdtIdx - s.wdtCnt.toNat + 1)

theorem cyclesLeft_of_pending (h : s.wdtIf = true) :
    cyclesLeft s = (s.arg.toNat - s.ticks.toNat - 1) * period s.params s.wdtIdx + 1 := by
  simp [cyclesLeft, h]

theorem cyclesLeft_of_not_pending (h : s.wdtIf = false) :
    cyclesLeft s = (s.arg.toNat - s.ticks.toNat - 1) * period s.params s.wdtIdx +
      (period s.params s.wdtIdx - s.wdtCnt.toNat + 1) := by
  simp [cyclesLeft, h]

/-- In the sleep that only the watchdog can wake, a wake is a pending tick. -/
theorem WatchdogSleep.wake_eq (h : WatchdogSleep s) : wake s = s.wdtIf := by
  simp [wake, deliverWdt, deliverPc, h.gie, h.wdtIe, h.pcIe]

/-- One wake more needs a period more. -/
theorem wakesAfter_mul_period (h : s.ticks.toNat + 1 < s.arg.toNat) (p : Nat) :
    (s.arg.toNat - s.ticks.toNat - 1) * p = (s.arg.toNat - (s.ticks.toNat + 1) - 1) * p + p := by
  rw [← Nat.succ_mul]
  congr 1
  omega

/-- One cycle is left exactly in the cycle of the last wake. -/
theorem WatchdogSleep.cyclesLeft_eq_one_iff (h : WatchdogSleep s) :
    cyclesLeft s = 1 ↔ s.wdtIf = true ∧ s.arg.toNat ≤ s.ticks.toNat + 1 := by
  have hlt := h.cnt_lt
  have hpos := two_le_period s.params s.wdtIdx
  cases hf : s.wdtIf with
  | false =>
    rw [cyclesLeft_of_not_pending hf]
    simp only [Bool.false_eq_true, false_and, iff_false]
    omega
  | true =>
    rw [cyclesLeft_of_pending hf, Nat.add_eq_right, Nat.mul_eq_zero]
    simp only [true_and]
    omega

/-- One cycle later the sleep goes on with `k` wakes counted, if that is fewer than asked for. -/
theorem WatchdogSleep.next (h : WatchdogSleep s) {b : Bool} {k : Word} (hk : k.toNat < s.arg.toNat)
    (hb : wdtTick s = true → b = true) :
    WatchdogSleep { wakePhases (pinSample s).pcint (takePort s) with halt := b, ticks := k } ∧
    cyclesLeft { wakePhases (pinSample s).pcint (takePort s) with halt := b, ticks := k } =
      (s.arg.toNat - k.toNat - 1) * period s.params s.wdtIdx +
        (if wdtTick s then 1 else period s.params s.wdtIdx - (wdtCntAfter s).toNat + 1) := by
  have hflag : (wakePhases (pinSample s).pcint (takePort s)).wdtIf = wdtTick s :=
    wakePhases_wdtIf_of_enabled (s := takePort s) _ h.gie h.wdtIe
  have hcnt := wdtTick_and_cnt_cases h.wdtEn h.idx_le h.cnt_lt
  refine ⟨⟨h.mode, h.analogEn, hk, h.gie, h.wdtIe, h.pcIe, h.wdtEn, h.idx_le, ?_, fun hf => ?_⟩, ?_⟩
  · change (wdtCntAfter s).toNat < period s.params s.wdtIdx
    omega
  · have htick := hflag.symm.trans hf
    change b = true ∧ (wdtCntAfter s).toNat = 0
    rcases hcnt with ⟨-, -, hcnt⟩ | ⟨-, hno, -⟩
    · exact ⟨hb htick, hcnt⟩
    · simp [hno] at htick
  · rw [cyclesLeft, hflag]
    rfl

/-- The sleep that `s` was a cycle of goes on in `t`, one cycle later. -/
def GoesOn (s t : State) : Prop :=
  WatchdogSleep t ∧ cyclesLeft s = cyclesLeft t + 1 ∧ t.arg = s.arg ∧ t.pins = s.pins.tail

/-- With no tick pending the watchdog counts on (43_scheduler R177). -/
theorem WatchdogSleep.step_of_not_pending (h : WatchdogSleep s) (hr : (pinSample s).rst = false)
    (hf : s.wdtIf = false) : ∃ t, step s = .next t ∧ GoesOn s t := by
  obtain ⟨hnext, hleft⟩ := h.next (b := true) h.ticks_lt fun _ => rfl
  refine ⟨_, step_of_tSleep_no_wake h.mode hr fun _ => h.wake_eq.trans hf, hnext, ?_, rfl, rfl⟩
  refine Eq.trans ?_ (congrArg (· + 1) hleft.symm)
  rcases wdtTick_and_cnt_cases h.wdtEn h.idx_le h.cnt_lt with ⟨hlast, htick, -⟩ | ⟨hlt, htick, hcnt⟩
  · rw [cyclesLeft_of_not_pending hf, if_pos htick]
    omega
  · rw [cyclesLeft_of_not_pending hf, if_neg (by simp [htick]), hcnt]
    omega

/-- A pending tick that is not the last one asked for is counted, and the next one takes a whole period from its own
cycle on (43_scheduler R177). -/
theorem WatchdogSleep.step_of_wake (h : WatchdogSleep s) (hr : (pinSample s).rst = false)
    (hf : s.wdtIf = true) (hk : s.ticks.toNat + 1 < s.arg.toNat) : ∃ t, step s = .next t ∧ GoesOn s t := by
  obtain ⟨hh, hzero⟩ := h.pending hf
  have hpos := two_le_period s.params s.wdtIdx
  obtain ⟨htick, hcnt⟩ : wdtTick s = false ∧ (wdtCntAfter s).toNat = 1 := by
    rcases wdtTick_and_cnt_cases h.wdtEn h.idx_le h.cnt_lt with ⟨hlast, -⟩ | ⟨-, htick, hcnt⟩
    · omega
    · exact ⟨htick, by omega⟩
  have hcount := ticks_succ_toNat h.ticks_lt
  obtain ⟨hnext, hleft⟩ := h.next (b := false) (k := s.ticks + 1) (by rwa [hcount]) (by simp [htick])
  rw [hcount, htick, hcnt] at hleft
  have hstep := step_of_tSleep h.mode hr
  rw [h.wake_eq, hf, tSleepStep_of_wake (s := wakePhases _ (takePort s)) hh hk] at hstep
  refine ⟨_, hstep, hnext, ?_, rfl, rfl⟩
  refine Eq.trans ?_ (congrArg (· + 1) hleft.symm)
  rw [cyclesLeft_of_pending hf, wakesAfter_mul_period hk, if_neg Bool.false_ne_true]
  omega

/-- The sleep with only the watchdog to wake it goes on for `n` cycles after this one, with ARG at `a`. -/
def SleepsOn (a : Word) (n : Nat) (u : State) : Prop :=
  WatchdogSleep u ∧ cyclesLeft u = n + 1 ∧ u.arg = a ∧ NoReset (n + 1) u

theorem step_of_sleepsOn {a : Word} {n : Nat} (h : SleepsOn a (n + 1) u) :
    ∃ t, step u = .next t ∧ SleepsOn a n t := by
  obtain ⟨hsleep, hleft, ha, hr⟩ := h
  obtain ⟨hrst, hrest⟩ := noReset_succ_iff.mp hr
  have hgo : ∃ t, step u = .next t ∧ GoesOn u t := by
    cases hf : u.wdtIf with
    | false => exact hsleep.step_of_not_pending hrst hf
    | true =>
      refine hsleep.step_of_wake hrst hf (Nat.lt_of_not_le fun hk => ?_)
      have hlast := hsleep.cyclesLeft_eq_one_iff.mpr ⟨hf, hk⟩
      omega
  obtain ⟨t, ht, hnext, hcount, harg, hpins⟩ := hgo
  exact ⟨t, ht, hnext, by omega, harg.trans ha, by rwa [NoReset, hpins]⟩

/-- The last wake ends the sleep, with as many wakes counted as asked for (43_scheduler R176). -/
theorem step_of_sleepsOn_zero {a : Word} (h : SleepsOn a 0 u) : ∃ t, step u = .next t ∧
    t.mode = .idle ∧ t.halt = false ∧ t.analogEn = true ∧ t.ticks = a := by
  obtain ⟨hsleep, hleft, rfl, hr⟩ := h
  obtain ⟨hf, hk⟩ := hsleep.cyclesLeft_eq_one_iff.mp hleft
  obtain ⟨hh, -⟩ := hsleep.pending hf
  have hstep := step_of_tSleep hsleep.mode (noReset_succ_iff.mp hr).1
  rw [hsleep.wake_eq, hf, tSleepStep_of_last_wake (s := wakePhases _ (takePort u)) hh hk] at hstep
  refine ⟨_, hstep, rfl, rfl, rfl, BitVec.eq_of_toNat_eq ?_⟩
  have hlt := hsleep.ticks_lt
  exact (ticks_succ_toNat hlt).trans (by omega)

/-- Settles O43: the cycles left of the sleep go down by one in each cycle, to the one of the last wake. -/
theorem timedSleepLastsStatedCycles : Obligations.TimedSleepLastsStatedCycles := by
  intro s busy hm hh ha hk harg hg hw hp hen hidx hcnt hpend hbusy hr
  have hsleep : WatchdogSleep s :=
    ⟨hm, ha, by rw [hk]; exact harg, hg, hw, hp, hen, hidx, hcnt, fun hf => ⟨hh, by simp [hpend hf]⟩⟩
  have hleft : cyclesLeft s = busy := by simp [hbusy, cyclesLeft, hk]
  obtain ⟨n, rfl⟩ : ∃ n, busy = n + 1 := Nat.exists_eq_add_one.mpr (by rw [hbusy]; split <;> omega)
  have hrun {k : Nat} (hkn : k ≤ n) : ∃ t, runCycles k s = .next t ∧ SleepsOn s.arg (n - k) t :=
    exists_run_of_countdown (fun _ _ => step_of_sleepsOn) (by
      rw [Nat.add_sub_cancel' hkn]
      exact ⟨hsleep, hleft, rfl, hr⟩)
  constructor
  · intro k hlt
    obtain ⟨t, ht, hu, -⟩ := hrun (Nat.le_of_lt_succ hlt)
    exact ⟨t, ht, hu.mode, hu.analogEn⟩
  · obtain ⟨u, hu, hlast⟩ := hrun le_rfl
    rw [Nat.sub_self] at hlast
    obtain ⟨t, ht, hend⟩ := step_of_sleepsOn_zero hlast
    exact ⟨t, runCycles_succ_of_run hu ht, hend⟩

end Sys2Proof.Machine
end

section
/-!
The event sleep (43_scheduler R179 to R182): what a cycle of it does, that it lasts while the pin is steady, and that it
ends two cycles from a pin change on.
-/

namespace Sys2Proof.Machine

variable {s t u : State}

/-! ### A cycle of an event sleep -/

theorem eSleepStep_of_delivery (s : State) : eSleepStep true s =
    { s with halt := false, pcIe := false, wdtIe := s.savedWie, gie := true, mode := .idle } := rfl

theorem eSleepStep_of_no_delivery (s : State) : eSleepStep false s = s := rfl

/-- The cycle of an event sleep is the engine's step after phases 1 to 4, with no write (10_state R40). -/
theorem step_of_eSleep (hm : s.mode = .eSleep) (hr : (pinSample s).rst = false) :
    step s = .next (eSleepStep (deliverPc s) (wakePhases (pinSample s).pcint (takePort s))) := by
  rw [step_of_no_write hr (acceptedWrite_of_busy (by simp [hm]))]
  simp [cycleBeforeWrite, engineStep, hm]

/-- Settles O59: the engine's step with and without a delivery. -/
theorem eventSleepStep : Obligations.EventSleepStep := by
  intro s hm hr
  refine ⟨_, _, sameS_wakePhases_takePort _ s, step_of_eSleep hm hr, fun hd => ?_, fun hg he hf => ?_⟩
  · rw [← deliverPc_iff, Bool.not_eq_true] at hd
    rw [hd]
    exact eSleepStep_of_no_delivery _
  · rw [deliverPc_iff.mpr ⟨hg, he, hf⟩]
    exact eSleepStep_of_delivery _

/-- In an event sleep a pending pin change is delivered (43_scheduler R179). -/
theorem deliverPc_of_inEventSleep (h : InEventSleep s) : deliverPc s = s.pcIf := by
  obtain ⟨-, -, hg, he, -⟩ := h
  simp [deliverPc, hg, he]

/-- A pending pin change ends the event sleep in this cycle (43_scheduler R181). -/
theorem step_of_pending_pinChange (h : InEventSleep s) (hf : s.pcIf = true) (hr : (pinSample s).rst = false) :
    ∃ t, step s = .next t ∧ AfterEventSleep s t := by
  have hstep := step_of_eSleep h.1 hr
  rw [deliverPc_of_inEventSleep h, hf] at hstep
  exact ⟨_, hstep, rfl, rfl, rfl, rfl, rfl⟩

/-- With no pin change pending the event sleep goes on, and an edge of this cycle is pending after it (43_scheduler
R182). -/
theorem step_of_no_pinChange (h : InEventSleep s) (hf : s.pcIf = false) (hr : (pinSample s).rst = false) :
    step s = .next (wakePhases (pinSample s).pcint (takePort s)) ∧
    InEventSleep (wakePhases (pinSample s).pcint (takePort s)) ∧
    (wakePhases (pinSample s).pcint (takePort s)).pcIf = pcEdge s (pinSample s).pcint := by
  have hstep := step_of_eSleep h.1 hr
  rw [deliverPc_of_inEventSleep h, hf] at hstep
  obtain ⟨-, -, hg, he, -⟩ := id h
  exact ⟨hstep, h, wakePhases_pcIf_of_enabled (s := takePort s) _ hg he⟩

/-! ### Steady samples -/

/-- `u` is in the event sleep that `s` was in before, with no pin change pending, and the pin is steady for `n` cycles,
after which the samples `later` come. -/
def Dozes (s : State) (later : List PinSample) (n : Nat) (u : State) : Prop :=
  InEventSleep u ∧ u.pcIf = false ∧ SteadyPin n u ∧ u.pins.drop n = later ∧
    u.pcLast = s.pcLast ∧ u.analogEn = s.analogEn ∧ u.savedWie = s.savedWie

/-- A steady pin lets the event sleep go on (43_scheduler R182). -/
theorem step_of_dozes {later : List PinSample} {n : Nat} (h : Dozes s later (n + 1) u) :
    ∃ t, step u = .next t ∧ Dozes s later n t := by
  obtain ⟨hsleep, hf, hpins, hlater, hlast, ha, hw⟩ := h
  obtain ⟨hr, hlevel, hrest⟩ := steadyPin_succ_iff.mp hpins
  obtain ⟨hstep, hasleep, hedge⟩ := step_of_no_pinChange hsleep hf hr
  refine ⟨_, hstep, hasleep, hedge.trans (by simp [pcEdge, hlevel]), ?_, ?_, hlevel.trans hlast, ha, hw⟩
  · rw [← hlevel] at hrest
    exact hrest
  · rw [← hlater, ← List.drop_tail]
    rfl

/-- A run of an event sleep over steady samples, and the samples it leaves. -/
theorem exists_run_of_quiet {quiet later : List PinSample} (h : InEventSleep s) (hf : s.pcIf = false)
    (hpins : s.pins = quiet ++ later) (hq : ∀ p ∈ quiet, p.rst = false ∧ p.pcint = s.pcLast) {k : Nat}
    (hk : k ≤ quiet.length) : ∃ t, runCycles k s = .next t ∧ Dozes s later (quiet.length - k) t := by
  refine exists_run_of_countdown (fun _ _ => step_of_dozes) ?_
  rw [Nat.add_sub_cancel' hk]
  refine ⟨h, hf, ?_, ?_, rfl, rfl, rfl⟩
  · rwa [SteadyPin, hpins, List.take_left]
  · rw [hpins, List.drop_left]

/-- A pin change is pending after the cycle that sees it (43_scheduler R182). -/
theorem step_of_edge {e x : PinSample} {rest : List PinSample} (h : Dozes s (e :: x :: rest) 0 u)
    (hr : e.rst = false) (he : e.pcint = !s.pcLast) :
    ∃ t, step u = .next t ∧ InEventSleep t ∧ t.pcIf = true ∧ pinSample t = x ∧ t.savedWie = s.savedWie := by
  obtain ⟨hsleep, hf, -, hpins, hlast, -, hw⟩ := h
  rw [List.drop_zero] at hpins
  have hsample : pinSample u = e := by simp [pinSample, hpins]
  obtain ⟨hstep, hasleep, hedge⟩ := step_of_no_pinChange hsleep hf (hsample ▸ hr)
  refine ⟨_, hstep, hasleep, hedge.trans (by simp [pcEdge, hsample, he, hlast]), ?_, hw⟩
  simp [pinSample, hpins]

/-- Settles O45: the sleep dozes over steady samples, and a delivery, which a sampled change brings one cycle later, or
a reset ends it. -/
theorem eventSleepEndsAfterPinChange : Obligations.EventSleepEndsAfterPinChange := by
  intro s h
  refine ⟨step_of_pending_pinChange h, fun hf => ⟨fun n hpins => ?_, ?_, ?_⟩⟩
  · have hstart : Dozes s (s.pins.drop n) n s := ⟨h, hf, hpins, rfl, rfl, rfl, rfl⟩
    obtain ⟨⟨t, ht, hsleep, htf, -, -, -, ha, hw⟩, hend⟩ :=
      run_of_busy_countdown (fun _ _ => step_of_dozes) (fun _ u hu => by simp [hu.1.1]) hstart
    exact ⟨⟨t, ht, hsleep, htf, ha, hw⟩, hend⟩
  · intro quiet rest e x hpins hq her hep hxr
    obtain ⟨u, hu, hdoze⟩ := exists_run_of_quiet h hf hpins hq le_rfl
    rw [Nat.sub_self] at hdoze
    obtain ⟨v, hv, hasleep, hvf, hvx, hvw⟩ := step_of_edge hdoze her hep
    have hrun := runCycles_succ_of_run hu hv
    obtain ⟨t, ht, hm, hh, hg, hpc, hwdt⟩ := step_of_pending_pinChange hasleep hvf (hvx ▸ hxr)
    refine ⟨fun k hk => ?_, t, runCycles_succ_of_run hrun ht, hm, hh, hg, hpc, hwdt.trans hvw⟩
    rcases Nat.le_succ_iff.mp hk with hk | rfl
    · obtain ⟨w, hw, hsleep, -⟩ := exists_run_of_quiet h hf hpins hq hk
      exact ⟨w, hw, hsleep.1, hsleep.2.1⟩
    · exact ⟨v, hrun, hasleep.1, hasleep.2.1⟩
  · intro quiet rest e hpins hq her
    obtain ⟨u, hu, -, -, -, hlater, -⟩ := exists_run_of_quiet h hf hpins hq le_rfl
    rw [Nat.sub_self, List.drop_zero] at hlater
    have hr : (pinSample u).rst = true := by simpa [pinSample, hlater] using her
    exact ⟨_, runCycles_succ_of_run hu (step_of_reset hr), rfl, rfl, rfl, rfl, rfl⟩

end Sys2Proof.Machine
end

section
/-!
Wake interrupts and the watchdog (60_exceptions): that nothing stops the machine (R190, R192), the pending flags
(R196 to R198), the watchdog generator (R200, R201), what a delivery does (R199) and the power states (R206).
-/

namespace Sys2Proof.Machine

variable {s t u : State}

/-! ### Nothing stops the machine -/

/-- Every command has a meaning in every state (60_exceptions R192). -/
theorem exec_completes (i : Instr) (s : State) : ∃ t, exec i s = .next t := by
  cases i <;> exact ⟨_, rfl⟩

/-- An accepted write completes: a legal word as its command does, an illegal one by raising CmdError, and any other
register's write at once (20_memory R63; 40_dispatch R103). -/
theorem regWrite_completes (a : RegAddr) (v : Word) (s : State) : ∃ t, regWrite a v s = .next t := by
  by_cases ha : a = 0xA
  · subst ha
    rw [regWrite_cmd]
    cases hd : decode v with
    | some i => exact execute_of_decode (s := s) hd ▸ exec_completes i s
    | none => exact ⟨_, execute_of_illegal hd⟩
  · exact ⟨_, regWrite_of_ne_cmd v ha⟩

/-- Every cycle completes (60_exceptions R190). -/
theorem step_completes (s : State) : ∃ t, step s = .next t := by
  rcases step_cases s with ⟨-, hs⟩ | ⟨-, -, hs⟩ | ⟨r, -, -, -, hs⟩
  · exact ⟨_, hs⟩
  · exact ⟨_, hs⟩
  · exact hs ▸ regWrite_completes r.addr r.data _

/-- Settles O10: each command's arm answers a next state, and so does each kind of cycle. -/
theorem everyCommandAndCycleCompletes : Obligations.EveryCommandAndCycleCompletes :=
  ⟨exec_completes, step_completes⟩

/-! ### What phases 5 and 6 leave of phases 1 to 4 -/

/-- `t` has the coming samples and what phases 1 to 4 write as `s` has them, but for the flag that SLEEP_PIN clears and
the count that WDT_SETUP clears, when `w` is the accepted write of one (43_scheduler R171, R179). -/
structure KeepsWakeFields (w : Option Request) (s t : State) : Prop where
  pins : t.pins = s.pins
  pcLast : t.pcLast = s.pcLast
  wdtIf : t.wdtIf = s.wdtIf
  pcIf : t.pcIf = if w = some { we := true, addr := 0xA, data := 0x9 } then false else s.pcIf
  wdtCnt : t.wdtCnt = if w = some { we := true, addr := 0xA, data := 0x7 } then 0 else s.wdtCnt

/-- A write of no command clears nothing. -/
theorem KeepsWakeFields.of_no_command {w : Option Request} (h : KeepsWakeFields none s t)
    (hw : ∀ i, w ≠ some { we := true, addr := 0xA, data := encode i }) : KeepsWakeFields w s t :=
  ⟨h.pins, h.pcLast, h.wdtIf, h.pcIf.trans (if_neg (hw .sleepPin)).symm,
    h.wdtCnt.trans (if_neg (hw .wdtSetup)).symm⟩

theorem engineStep_keepsWakeFields (woken dP : Bool) (s : State) :
    KeepsWakeFields none s (engineStep woken dP s) := by
  obtain ⟨_, _, _, _, _, _, _, _, _, _, _, _, _, _, h⟩ := engineStep_frame woken dP s
  rw [h]
  exact ⟨rfl, rfl, rfl, rfl, rfl⟩

theorem exec_keepsWakeFields {i : Instr} (h : exec i s = .next t) :
    KeepsWakeFields (some { we := true, addr := 0xA, data := encode i }) s t := by
  cases i with
  | sleep =>
    cases h
    split <;> exact ⟨rfl, rfl, rfl, rfl, rfl⟩
  | _ => cases h; exact ⟨rfl, rfl, rfl, rfl, rfl⟩

/-- A word written to CMD, legal or not (40_dispatch R101, R103). -/
theorem execute_keepsWakeFields {v : Word} (h : execute v s = .next t) :
    KeepsWakeFields (some { we := true, addr := 0xA, data := v }) s t := by
  cases hd : decode v with
  | some i =>
    rw [execute_of_decode hd] at h
    exact decode_eq_some_iff_eq_encode.mp hd ▸ exec_keepsWakeFields h
  | none =>
    rw [execute_of_illegal hd] at h
    cases h
    refine KeepsWakeFields.of_no_command ⟨rfl, rfl, rfl, rfl, rfl⟩ ?_
    rintro i ⟨⟩
    simp at hd

theorem writeReg_keepsWakeFields (s : State) (v : Word) (r : Reg) : KeepsWakeFields none s (writeReg s v r) := by
  cases r <;> exact ⟨rfl, rfl, rfl, rfl, rfl⟩

/-- An accepted write, of a command or of a data register (20_memory R63). -/
theorem regWrite_keepsWakeFields {a : RegAddr} {v : Word} (h : regWrite a v s = .next t) :
    KeepsWakeFields (some { we := true, addr := a, data := v }) s t := by
  by_cases ha : a = 0xA
  · subst ha
    exact execute_keepsWakeFields (regWrite_cmd v ▸ h)
  · rw [regWrite_of_ne_cmd v ha] at h
    cases h
    refine (writeReg_keepsWakeFields s v _).of_no_command ?_
    rintro i ⟨⟩
    exact ha rfl

/-- A cycle without reset leaves what its phases 1 to 4 write, but for what its accepted write clears (10_state R40). -/
theorem step_keepsWakeFields (hr : (pinSample s).rst = false) (h : step s = .next t) :
    KeepsWakeFields (acceptedWrite s) (wakePhases (pinSample s).pcint (takePort s)) t := by
  rcases step_cases s with ⟨hrst, -⟩ | ⟨-, hw, hs⟩ | ⟨⟨we, a, v⟩, -, -, hw, hs⟩
  · simp [hr] at hrst
  · cases hs.symm.trans h
    exact hw ▸ engineStep_keepsWakeFields _ _ _
  · obtain ⟨-, -, rfl, -⟩ := acceptedWrite_eq_some_iff.mp hw
    exact hw ▸ regWrite_keepsWakeFields (hs.symm.trans h)

/-! ### The pending flags -/

/-- Settles O46: phases 1 to 4 write the sample and both flags, and only SLEEP_PIN clears one after them. -/
theorem pendingFlagsRule : Obligations.PendingFlagsRule := fun _ _ hr h =>
  have hkeep := step_keepsWakeFields hr h
  ⟨hkeep.pcLast, hkeep.wdtIf, hkeep.pcIf⟩

/-! ### The watchdog -/

/-- Settles O48: the shift is a product, and the base is between 2 and 2^15 (00_scope R6). -/
theorem periodDoublesAndFits : Obligations.PeriodDoublesAndFits := fun p i hi =>
  ⟨period_eq_mul p i, two_le_period p i, period_le p hi⟩

/-- A running watchdog ticks in the last cycle of its period (60_exceptions R201). -/
theorem wdtTick_iff (s : State) :
    wdtTick s = true ↔ s.wdtEn = true ∧ s.wdtCnt.toNat + 1 = period s.params s.wdtIdx := by
  have hp := two_le_period s.params s.wdtIdx
  rw [wdtTick, Bool.and_eq_true, beq_iff_eq, eq_tsub_iff_add_eq_of_le (by omega)]

/-- Settles O47: phase 2 writes the count, and only WDT_SETUP clears it after that. -/
theorem watchdogCounterRule : Obligations.WatchdogCounterRule := fun s _ hr h =>
  ⟨period_eq_mul s.params s.wdtIdx ▸ wdtTick_iff s, (step_keepsWakeFields hr h).wdtCnt⟩

/-- The watchdog runs within its period, as it does in every reached state of a running one (10_state R41 item 6). -/
def WatchdogRuns (s : State) : Prop :=
  s.wdtEn = true ∧ s.wdtIdx.toNat ≤ 9 ∧ s.wdtCnt.toNat < period s.params s.wdtIdx

/-- In `t` the watchdog runs as configured in `s` and has counted `n` cycles more, modulo its period (60_exceptions
R201). -/
def CountsOn (n : Nat) (s t : State) : Prop :=
  t.params = s.params ∧ t.wdtEn = s.wdtEn ∧ t.wdtIdx = s.wdtIdx ∧
    t.wdtCnt.toNat = (s.wdtCnt.toNat + n) % period s.params s.wdtIdx

theorem WatchdogRuns.countsOn_zero (h : WatchdogRuns s) : CountsOn 0 s s := by
  obtain ⟨-, -, hlt⟩ := h
  exact ⟨rfl, rfl, rfl, (Nat.mod_eq_of_lt hlt).symm⟩

theorem CountsOn.trans {m n : Nat} (h : CountsOn m s t) (h' : CountsOn n t u) : CountsOn (m + n) s u := by
  obtain ⟨hp, hen, hidx, hcnt⟩ := h
  obtain ⟨hp', hen', hidx', hcnt'⟩ := h'
  refine ⟨hp'.trans hp, hen'.trans hen, hidx'.trans hidx, ?_⟩
  rw [hcnt', hp, hidx, hcnt, Nat.mod_add_mod, Nat.add_assoc]

theorem WatchdogRuns.of_countsOn {n : Nat} (hs : WatchdogRuns s) (h : CountsOn n s t) : WatchdogRuns t := by
  obtain ⟨hon, hle, hlt⟩ := hs
  obtain ⟨hp, hen, hidx, hcnt⟩ := h
  exact ⟨hen.trans hon, hidx ▸ hle, by rw [hp, hidx, hcnt]; exact Nat.mod_lt _ (by omega)⟩

/-- Phase 2 counts one cycle: up to the last of the period, and from there to 0 (60_exceptions R201). -/
theorem WatchdogRuns.wdtCntAfter_toNat (h : WatchdogRuns s) :
    (wdtCntAfter s).toNat = (s.wdtCnt.toNat + 1) % period s.params s.wdtIdx := by
  obtain ⟨hen, hidx, hlt⟩ := h
  rcases wdtTick_and_cnt_cases hen hidx hlt with ⟨hlast, -, hcnt⟩ | ⟨hbelow, -, hcnt⟩
  · rw [hcnt, hlast, Nat.mod_self]
  · rw [hcnt, Nat.mod_eq_of_lt hbelow]

/-- A cycle that neither is a reset nor accepts WDT_SETUP counts one, whatever else happens in it. -/
theorem WatchdogRuns.step_countsOn (hs : WatchdogRuns s) (hr : (pinSample s).rst = false)
    (hw : acceptedWrite s ≠ some { we := true, addr := 0xA, data := 0x7 }) (h : step s = .next t) :
    CountsOn 1 s t := by
  obtain ⟨hen, hidx⟩ := step_sameWdtConfig hr hw h
  have hcnt := (step_keepsWakeFields hr h).wdtCnt
  rw [if_neg hw] at hcnt
  exact ⟨parametersNeverChange s t h, hen, hidx, hcnt ▸ hs.wdtCntAfter_toNat⟩

/-- A run without reset and WDT_SETUP counts its cycles. -/
theorem WatchdogRuns.run_countsOn {k : Nat} (hs : WatchdogRuns s) (hr : NoReset k s)
    (hw : ∀ j < k, ∀ u, runCycles j s = .next u →
      acceptedWrite u ≠ some { we := true, addr := 0xA, data := 0x7 }) :
    ∃ t, runCycles k s = .next t ∧ CountsOn k s t := by
  induction k generalizing s with
  | zero => exact ⟨s, rfl, hs.countsOn_zero⟩
  | succ k ih =>
    obtain ⟨hr0, hlater⟩ := noReset_succ_iff.mp hr
    obtain ⟨u, hu⟩ := step_completes s
    have hone := hs.step_countsOn hr0 (hw 0 k.succ_pos s rfl) hu
    have hpins : u.pins = s.pins.tail := (step_keepsWakeFields hr0 hu).pins
    obtain ⟨t, ht, hrest⟩ := ih (hs.of_countsOn hone) (by rwa [NoReset, hpins])
      fun j hj v hv => hw (j + 1) (Nat.succ_lt_succ hj) v (runCycles_succ_of_step j hu ▸ hv)
    exact ⟨t, runCycles_succ_of_step k hu ▸ ht, k.add_comm 1 ▸ hone.trans hrest⟩

/-- A count modulo `p` is the last one exactly when the next one is 0. -/
theorem mod_add_one_eq_iff (n : Nat) {p : Nat} (hp : 0 < p) : n % p + 1 = p ↔ (n + 1) % p = 0 := by
  cases p with
  | zero => contradiction
  | succ b => rw [Nat.succ_mod_succ_eq_zero_iff, Nat.add_right_cancel_iff]

/-- Settles O49: each cycle of the run counts one modulo the period, and the tick comes with the last count. -/
theorem watchdogIsPeriodic : Obligations.WatchdogIsPeriodic := by
  intro s k hr hon hle hlt hw
  obtain ⟨t, ht, hp, hen, hidx, hcnt⟩ := WatchdogRuns.run_countsOn ⟨hon, hle, hlt⟩ hr hw
  refine ⟨t, ht, hen.trans hon, hidx, hcnt, ?_⟩
  rw [wdtTick_iff, hp, hidx, hcnt, and_iff_right (hen.trans hon),
    mod_add_one_eq_iff _ (Nat.zero_lt_of_lt (two_le_period _ _))]

/-! ### Deliveries outside a sleep -/

/-- The record S is the same but for the pending flags. -/
def SameButFlags (t u : State) : Prop := SameS { t with wdtIf := u.wdtIf, pcIf := u.pcIf } u

/-- `s` with other pending flags. -/
def setFlags (x y : Bool) (s : State) : State := { s with wdtIf := x, pcIf := y }

/-- `s` with the pending flags and the port of `p`. -/
def withFlags (p s : State) : State := withPort p (setFlags p.wdtIf p.pcIf s)

/-- No command reads a pending flag. -/
theorem exec_sameButFlags {i : Instr} {p : State} (h : exec i s = .next t) (h' : exec i (withFlags p s) = .next u) :
    SameButFlags t u := by
  cases i with
  | sleep =>
    by_cases harg : s.arg = 0
    · cases (exec_sleep_of_zero harg).symm.trans h
      cases (exec_sleep_of_zero (s := withFlags p s) harg).symm.trans h'
      rfl
    · cases (exec_sleep_of_ne_zero harg).symm.trans h
      cases (exec_sleep_of_ne_zero (s := withFlags p s) harg).symm.trans h'
      rfl
  | _ => cases h; cases h'; rfl

theorem execute_sameButFlags {v : Word} {p : State} (h : execute v s = .next t)
    (h' : execute v (withFlags p s) = .next u) : SameButFlags t u := by
  cases hd : decode v with
  | some i => exact exec_sameButFlags (execute_of_decode hd ▸ h) (execute_of_decode hd ▸ h')
  | none =>
    rw [execute_of_illegal hd] at h h'
    cases h
    cases h'
    rfl

theorem writeReg_sameButFlags (p s : State) (v : Word) (r : Reg) :
    SameButFlags (writeReg s v r) (writeReg (withFlags p s) v r) := by
  cases r <;> rfl

/-- No write reads a pending flag (20_memory R63). -/
theorem regWrite_sameButFlags {a : RegAddr} {v : Word} {p : State} (h : regWrite a v s = .next t)
    (h' : regWrite a v (withFlags p s) = .next u) : SameButFlags t u := by
  by_cases ha : a = 0xA
  · subst ha
    exact execute_sameButFlags (regWrite_cmd v ▸ h) (regWrite_cmd v ▸ h')
  · rw [regWrite_of_ne_cmd v ha] at h h'
    cases h
    cases h'
    exact writeReg_sameButFlags p s v _

/-- The transmitter neither reads nor writes a pending flag (42_transmitter R140). -/
theorem txStep_sameButFlags (p s : State) : SameButFlags (txStep s) (txStep (withFlags p s)) := by
  have hs : txStep s = withTransmission s (txStep s) := txStep_withTransmission s s
  have hp : txStep (withFlags p s) = withTransmission (withFlags p s) (txStep s) :=
    txStep_withTransmission (withFlags p s) s
  rw [hp, hs]
  rfl

/-- Outside the sleeps phase 5 uses no delivery and no pending flag (60_exceptions R199). -/
theorem engineStep_sameButFlags (p : State) {woken dP woken' dP' : Bool} (ht : s.mode ≠ .tSleep)
    (he : s.mode ≠ .eSleep) : SameButFlags (engineStep woken dP s) (engineStep woken' dP' (withFlags p s)) := by
  rw [engineStep, engineStep, show (withFlags p s).mode = s.mode from rfl]
  cases hm : s.mode with
  | idle => rfl
  | txSym | txFrame => exact txStep_sameButFlags p s
  | tSleep => exact absurd hm ht
  | eSleep => exact absurd hm he

/-- Other flags before phases 1 to 4 are other flags, and another read of IRQ, after them (60_exceptions R198). -/
theorem wakePhases_setFlags (v x y : Bool) (s : State) : wakePhases v (takePort (setFlags x y s)) =
    withFlags (wakePhases v (takePort (setFlags x y s))) (wakePhases v (takePort s)) := rfl

theorem cycleBeforeWrite_sameButFlags (x y : Bool) (ht : s.mode ≠ .tSleep) (he : s.mode ≠ .eSleep) :
    SameButFlags (cycleBeforeWrite s) (cycleBeforeWrite (setFlags x y s)) := by
  rw [cycleBeforeWrite, cycleBeforeWrite, wakePhases_setFlags]
  exact engineStep_sameButFlags _ ht he

/-- Settles O50: outside the sleeps neither the engine nor the accepted write reads the flags or what was delivered. -/
theorem deliveryOutsideSleepOnlyClearsFlags : Obligations.DeliveryOutsideSleepOnlyClearsFlags := by
  intro s t u x y ht he h (h' : step (setFlags x y s) = .next u)
  rcases step_cases s with ⟨hr, hs⟩ | ⟨hr, hw, hs⟩ | ⟨r, -, hm, hw, hs⟩
  · cases hs.symm.trans h
    cases (step_of_reset (s := setFlags x y s) hr).symm.trans h'
    rfl
  · cases hs.symm.trans h
    cases (step_of_no_write (s := setFlags x y s) hr hw).symm.trans h'
    exact cycleBeforeWrite_sameButFlags x y ht he
  · rw [step_of_write (s := setFlags x y s) hw, cycleBeforeWrite_of_idle (s := setFlags x y s) hm,
      wakePhases_setFlags] at h'
    exact regWrite_sameButFlags (hs.symm.trans h) h'

/-! ### The power states -/

/-- Settles O55: R41 items 4 and 5, read for each of the modes. -/
theorem powerStates : Obligations.PowerStates := by
  intro s h
  obtain ⟨⟨-, -, -, hhalt, hsleep, hr⟩, -⟩ := id h
  refine ⟨hsleep.1, fun hm => ?_, fun hm => ?_⟩
  · have hne : s.mode ≠ .tSleep ∧ s.mode ≠ .eSleep := by rcases hm with hm | hm | hm <;> simp [hm]
    obtain ⟨hawake, hon, -⟩ := (awakeInRange_iff hne.1 hne.2).mpr ⟨hhalt, hsleep, hr⟩
    exact ⟨hawake, hon⟩
  · obtain ⟨-, ⟨-, hasleep, -⟩, hon, -⟩ := (stateInv_iff_of_eSleep hm).mp h
    exact ⟨hasleep, hon⟩

end Sys2Proof.Machine
end

section
/-!
The end of a run (70_reset_and_hazards R235): the first cycle at which nothing is left to do, on a run that withdraws no
request; a run has one such cycle at most, and the inputs determine it.
-/

namespace Sys2Proof.Machine

variable {s t u : State} {e f : RunEnd}

/-- The run goes on after this cycle: it is at no end, and no request is withdrawn (log entry 19). -/
def RunGoesOn (s : State) : Prop := atEnd s = false ∧ withdraws s = false

/-- `e` is the first end on the run from `s`, and the run goes on in every cycle before it (70_reset_and_hazards R235). -/
def EndsFirstAt (s : State) (e : RunEnd) : Prop :=
  runCycles e.cycle s = .next e.state ∧ e.outputs = outputs e.state ∧ atEnd e.state = true ∧
  ∀ k < e.cycle, ∃ u, runCycles k s = .next u ∧ RunGoesOn u

theorem runGoesOn_iff : RunGoesOn s ↔ ¬ (s.mode = .idle ∧ ∀ a ∈ s.host, a = .idle) ∧
    ∀ r rest, s.host = .offer r :: rest → reqReadyO s = true := by
  rw [RunGoesOn, withdraws_eq_false_iff, ← atEnd_iff, Bool.not_eq_true]

/-- A run that is at its end ends first now. -/
theorem endsFirstAt_endNow (h : atEnd s = true) : EndsFirstAt s (endNow s) :=
  ⟨rfl, rfl, h, fun _ hk => absurd hk (Nat.not_lt_zero _)⟩

/-- An end in cycle 0 is the end now. -/
theorem EndsFirstAt.eq_endNow {o : Outputs} (h : EndsFirstAt s ⟨0, u, o⟩) :
    atEnd s = true ∧ ⟨0, u, o⟩ = endNow s := by
  obtain ⟨hrun, ho, hend, -⟩ := h
  cases hrun
  exact ⟨hend, congrArg (RunEnd.mk 0 u) ho⟩

/-- The run ends one cycle later than the run from its next state, and goes on until then. -/
theorem endsFirstAt_oneCycleLater_iff (hs : step s = .next t) :
    EndsFirstAt s (oneCycleLater e) ↔ RunGoesOn s ∧ EndsFirstAt t e := by
  have hrun : ∀ k, runCycles (k + 1) s = runCycles k t := fun k => runCycles_succ_of_step k hs
  constructor
  · rintro ⟨hstate, ho, hend, hbefore⟩
    obtain ⟨v, hv, hgo⟩ := hbefore 0 (Nat.succ_pos _)
    cases hv
    exact ⟨hgo, hrun _ ▸ hstate, ho, hend, fun k hk => hrun k ▸ hbefore (k + 1) (Nat.succ_lt_succ hk)⟩
  · rintro ⟨hgo, hstate, ho, hend, hbefore⟩
    refine ⟨(hrun _).trans hstate, ho, hend, fun k hk => ?_⟩
    cases k with
    | zero => exact ⟨s, rfl, hgo⟩
    | succ k => exact hrun k ▸ hbefore k (Nat.lt_of_succ_lt_succ hk)

/-- What the search for an end finds is the first one. -/
theorem endsFirstAt_of_endWithin {n : Nat} (h : endWithin n s = some e) : EndsFirstAt s e := by
  induction n generalizing s e with
  | zero =>
    cases hend : atEnd s with
    | true =>
      cases (endWithin_of_atEnd 0 hend).symm.trans h
      exact endsFirstAt_endNow hend
    | false => cases (endWithin_zero hend).symm.trans h
  | succ n ih =>
    cases hend : atEnd s with
    | true =>
      cases (endWithin_of_atEnd (n + 1) hend).symm.trans h
      exact endsFirstAt_endNow hend
    | false =>
      cases hw : withdraws s with
      | true => cases (endWithin_of_withdraws (n + 1) hend hw).symm.trans h
      | false =>
        obtain ⟨t, ht⟩ := step_completes s
        rw [endWithin_succ_of_step n hend hw ht, Option.map_eq_some_iff] at h
        obtain ⟨f, hf, rfl⟩ := h
        exact (endsFirstAt_oneCycleLater_iff ht).mpr ⟨⟨hend, hw⟩, ih hf⟩

/-- A search of as many cycles finds the first end. -/
theorem EndsFirstAt.endWithin_eq (h : EndsFirstAt s e) : endWithin e.cycle s = some e := by
  obtain ⟨n, v, o⟩ := e
  induction n generalizing s with
  | zero =>
    obtain ⟨hend, he⟩ := h.eq_endNow
    rw [he]
    exact endWithin_of_atEnd 0 hend
  | succ n ih =>
    obtain ⟨t, ht⟩ := step_completes s
    obtain ⟨⟨hend, hw⟩, hrest⟩ := (endsFirstAt_oneCycleLater_iff (e := ⟨n, v, o⟩) ht).mp h
    rw [endWithin_succ_of_step n hend hw ht, ih hrest]
    rfl

theorem runEnds_iff : RunEnds s e ↔ EndsFirstAt s e :=
  ⟨fun ⟨_, h⟩ => endsFirstAt_of_endWithin h, fun h => ⟨e.cycle, h.endWithin_eq⟩⟩

/-- Before a first end there is no other end. -/
theorem EndsFirstAt.cycle_le (h : EndsFirstAt s e) (h' : EndsFirstAt s f) : f.cycle ≤ e.cycle := by
  obtain ⟨hrun, -, hend, -⟩ := h
  obtain ⟨-, -, -, hbefore⟩ := h'
  by_contra hlt
  obtain ⟨v, hv, hgo, -⟩ := hbefore e.cycle (Nat.lt_of_not_le hlt)
  cases hv.symm.trans hrun
  exact Bool.false_ne_true (hgo.symm.trans hend)

/-- A run has one first end at most. -/
theorem EndsFirstAt.unique (h : EndsFirstAt s e) (h' : EndsFirstAt s f) : e = f := by
  have hcycle : e.cycle = f.cycle := Nat.le_antisymm (h'.cycle_le h) (h.cycle_le h')
  obtain ⟨m, v, o⟩ := e
  obtain ⟨n, v', o'⟩ := f
  obtain ⟨hrun, ho, -⟩ := h
  obtain ⟨hrun', ho', -⟩ := h'
  cases hcycle
  cases hrun.symm.trans hrun'
  exact congrArg (RunEnd.mk m v) (ho.trans ho'.symm)

/-- No cycle reads the port's last answer (log entry 5). -/
theorem step_and_outputs_of_answer (s : State) (ready : Bool) (rdata : Word) :
    step { s with reqReady := ready, rspRdata := rdata } = step s ∧
    outputs { s with reqReady := ready, rspRdata := rdata } = outputs s := ⟨rfl, rfl⟩

/-- States with the same record S, parameters and inputs differ in the port's last answer at most. -/
theorem SameS.eq_of_inputs (h : SameS s t) (hp : s.params = t.params) (hh : s.host = t.host) (hi : s.pins = t.pins) :
    t = { s with reqReady := t.reqReady, rspRdata := t.rspRdata } := by
  rw [SameS, ← hp, ← hh, ← hi] at h
  exact h

/-- Settles O60: the search finds exactly the first end, of which there is one at most, and the port's last answer, which
is all that such states can differ in, is read by no cycle. -/
theorem runEndsInFirstIdleCycleWithAllAccepted : Obligations.RunEndsInFirstIdleCycleWithAllAccepted := by
  refine ⟨fun s e => ?_, fun s e f he hf => (runEnds_iff.mp he).unique (runEnds_iff.mp hf), fun s t h hp hh hi => ?_⟩
  · rw [runEnds_iff, EndsFirstAt, atEnd_iff, and_assoc]
    simp only [runGoesOn_iff]
  · rw [h.eq_of_inputs hp hh hi]
    obtain ⟨hstep, houts⟩ := step_and_outputs_of_answer s t.reqReady t.rspRdata
    exact ⟨hstep.symm, houts.symm⟩

end Sys2Proof.Machine
end

section
/-!
What a reset cycle sets and leaves readable (70_reset_and_hazards R220, R223), and that operations do not overlap
(70_reset_and_hazards R230).
-/

namespace Sys2Proof.Machine

variable {s t : State}

/-! ### Operations -/

/-- The operation of `s` runs on in `t`, or the block is idle there (70_reset_and_hazards R230). -/
def SameModeOrIdle (s t : State) : Prop := t.mode = s.mode ∨ t.mode = .idle

theorem endRepeat_sameModeOrIdle (s : State) : SameModeOrIdle s (endRepeat s) := by
  rcases endRepeat_cases s with ⟨-, h⟩ | ⟨-, h⟩ <;> rw [h]
  · exact .inl rfl
  · exact .inr rfl

theorem nextInFrame_sameModeOrIdle (s : State) : SameModeOrIdle s (nextInFrame s) := by
  rcases nextInFrame_cases s with ⟨-, h⟩ | ⟨-, h⟩ <;> rw [h]
  · exact .inl rfl
  · exact endRepeat_sameModeOrIdle s

theorem txStep_sameModeOrIdle (s : State) : SameModeOrIdle s (txStep s) := by
  rcases txStep_cases s with ⟨-, h⟩ | ⟨-, ⟨-, h⟩ | ⟨-, h⟩ | ⟨-, h⟩ | ⟨-, -, h⟩ | ⟨-, -, h⟩⟩ <;> rw [h]
  · exact .inl rfl
  · exact .inl rfl
  · exact .inl rfl
  · exact .inl rfl
  · exact .inr rfl
  · exact nextInFrame_sameModeOrIdle s

theorem tSleepStep_sameModeOrIdle (woken : Bool) (s : State) : SameModeOrIdle s (tSleepStep woken s) := by
  rcases tSleepStep_cases woken s with ⟨-, h⟩ | ⟨-, -, h⟩ | ⟨-, -, -, h⟩ | ⟨-, -, -, h⟩ <;> rw [h]
  · exact .inl rfl
  · exact .inl rfl
  · exact .inl rfl
  · exact .inr rfl

theorem eSleepStep_sameModeOrIdle (dP : Bool) (s : State) : SameModeOrIdle s (eSleepStep dP s) := by
  rcases eSleepStep_cases dP s with ⟨-, h⟩ | ⟨-, h⟩ <;> rw [h]
  · exact .inl rfl
  · exact .inr rfl

/-- Phase 5 carries its operation on or ends it (10_state R40). -/
theorem engineStep_sameModeOrIdle (woken dP : Bool) (s : State) : SameModeOrIdle s (engineStep woken dP s) := by
  rw [engineStep]
  cases s.mode with
  | idle => exact .inl rfl
  | txSym | txFrame => exact txStep_sameModeOrIdle s
  | tSleep => exact tSleepStep_sameModeOrIdle woken s
  | eSleep => exact eSleepStep_sameModeOrIdle dP s

/-- Settles O53: a reset leaves the block idle, a busy block accepts no command that could start another operation, and
the engine carries its own on or ends it. -/
theorem operationsDoNotOverlap : Obligations.OperationsDoNotOverlap := by
  intro s t h hbusy
  rcases step_cases s with ⟨-, hs⟩ | ⟨-, -, hs⟩ | ⟨r, -, hidle, -, -⟩
  · cases hs.symm.trans h
    exact .inr rfl
  · cases hs.symm.trans h
    exact engineStep_sameModeOrIdle (wake s) (deliverPc s) (wakePhases (pinSample s).pcint (takePort s))
  · exact absurd hidle hbusy

/-! ### The reset cycle -/

/-- Nothing is accepted in a reset cycle (70_reset_and_hazards R220). -/
theorem accepted_of_reset (h : (pinSample s).rst = true) : accepted s = none :=
  Option.eq_none_iff_forall_ne_some.mpr fun _ ha =>
    Bool.false_ne_true ((accepted_eq_some_iff.mp ha).2.1.symm.trans h)

/-- The port answers nothing in a reset cycle, and the levels are those of the state before (70_reset_and_hazards R220). -/
theorem outputs_of_reset (h : (pinSample s).rst = true) : outputs s =
    { rfPin := s.pin, cpuHalt := s.halt, analogEn := s.analogEn, reqReady := false, rspRdata := 0 } := by
  have hready : reqReadyO s = false := by rw [reqReadyO, accepted_of_reset h, Option.isSome_none]
  have hdata : rspRdataO s = 0 := rspRdataO_of_no_read (by simp [accepted_of_reset h])
  rw [outputs, hready, hdata]
  rfl

/-- Settles O1: the next state is `applyReset`, whose fields are constants or the two inputs. -/
theorem resetCycleSetsResetState : Obligations.ResetCycleSetsResetState := fun _ hr =>
  ⟨⟨_, step_of_reset hr, rfl, rfl, rfl, rfl, rfl, rfl, rfl, rfl, rfl, rfl, rfl, rfl, rfl, rfl, rfl, rfl, rfl, rfl, rfl,
    rfl, rfl, rfl, rfl, rfl, rfl, rfl, rfl, rfl, rfl, rfl, rfl⟩, outputs_of_reset hr⟩

/-- STATUS after reset: only ANALOG_EN is set (70_reset_and_hazards R223). -/
theorem statusImage_applyReset (c v : Bool) (s : State) : statusImage (applyReset c v s) = 0x0040 := by
  simp [statusImage, bitWord, Mode.code]

/-- IRQ after reset: only WDRF can be set (70_reset_and_hazards R223). -/
theorem irqImage_applyReset (c v : Bool) (s : State) :
    irqImage (applyReset c v s) = if c then 0x0100 else 0x0000 := by
  cases c <;> simp [irqImage, enablesImage, bitWord]

/-- An idle block accepts every request outside reset (20_memory R62). -/
theorem accepted_of_idle {r : Request} (hm : s.mode = .idle) (hr : (pinSample s).rst = false)
    (hp : presented s = some r) : accepted s = some r :=
  accepted_eq_some_iff.mpr ⟨hp, hr, .inr hm⟩

/-- Settles O2: the reset state is idle, and its two images are as listed. -/
theorem afterResetBlockIsIdleAndReadable : Obligations.AfterResetBlockIsIdleAndReadable := fun _ hr =>
  ⟨_, step_of_reset hr, rfl, rfl, rfl, rfl, rfl, statusImage_applyReset _ _ _, irqImage_applyReset _ _ _,
    fun hNext _ => accepted_of_idle rfl hNext⟩

end Sys2Proof.Machine
end
